-- ==== Sys2Proof/Word.lean ====
section
/-! DEFINITION. The words of the NW3224: the byte of the control line, the two-byte words of its layouts
(10.6) and the 24-bit sample of the audio lanes (R168). -/

namespace Sys2Proof

/-- One byte of the control line (R181). -/
abbrev Byte := BitVec 8

/-- A two-byte word of the layouts, the notice word among them (10.6). -/
abbrev Word16 := BitVec 16

/-- One signed 24-bit sample as a lane carries it (R168); `BitVec.toInt` is its value. -/
abbrev SampleWord := BitVec 24

end Sys2Proof
end

