-- ==== Sys2Proof/Machine/Table.lean ====
section
/-! DEFINITION. Tables of a fixed number of like things (the 256 slots, the 32 inputs, the 24 zones):
a list that carries its own length. -/

namespace Sys2Proof

/-- `n` things of one kind, numbered 0 to `n - 1`. -/
structure Table (α : Type) (n : Nat) where
  cells : List α
  size  : cells.length = n
  deriving DecidableEq, Repr

namespace Table

/-- Every place holds `a`. -/
def fill (n : Nat) (a : α) : Table α n :=
  ⟨List.replicate n a, List.length_replicate⟩

/-- What place `i` holds. -/
def get (t : Table α n) (i : Fin n) : α :=
  t.cells.get ⟨i.1, t.size.symm ▸ i.2⟩

/-- Place `i` takes `a`; the other places keep what they hold. -/
def set (t : Table α n) (i : Fin n) (a : α) : Table α n :=
  ⟨t.cells.set i.1 a, List.length_set.trans t.size⟩

/-- Place `i` takes `f` of what it holds. -/
def modify (t : Table α n) (i : Fin n) (f : α → α) : Table α n :=
  t.set i (f (t.get i))

/-- Every place takes `f` of what it holds. -/
def map (f : α → β) (t : Table α n) : Table β n :=
  ⟨t.cells.map f, (List.length_map f).trans t.size⟩

/-- The two tables taken place by place. -/
def zipWith (f : α → β → γ) (t : Table α n) (u : Table β n) : Table γ n :=
  ⟨List.zipWith f t.cells u.cells, by simp [t.size, u.size]⟩

/-- The table whose place `i` holds `f i`. -/
def ofFn (f : Fin n → α) : Table α n :=
  ⟨List.ofFn f, List.length_ofFn⟩

/-- The lowest place whose holding satisfies `p`. -/
def first? (p : α → Bool) (t : Table α n) : Option (Fin n) :=
  (List.finRange n).find? fun i => p (t.get i)

/-- Whether some place satisfies `p`. -/
def any (p : α → Bool) (t : Table α n) : Bool :=
  t.cells.any p

/-- How many places satisfy `p`. -/
def count (p : α → Bool) (t : Table α n) : Nat :=
  t.cells.countP p

end Table
end Sys2Proof
end

