-- ==== Sys2Proof/Machine/Records.lean ====
section
/-! DEFINITION. The names, codes and records that both the commands and the state speak of: numbered things
(Conventions, Numbering), the fixed sets of names of the code tables (10.6), and the parts of the working
copy (R195). -/

namespace Sys2Proof

/-! ## Numbered things

A thing the manual numbers from 1 (input, zone, precinct, station, key) stands in the model at the index one
below its number; a thing it numbers from 0 (slot, cue, notch slot, preset) stands at its number. -/

abbrev InputIx := Fin 32
abbrev ZoneIx := Fin 24
abbrev PrecinctIx := Fin 4
abbrev StationIx := Fin 16
abbrev KeyIx := Fin 16
abbrev SlotIx := Fin 256
abbrev CueIx := Fin 64
abbrev NotchIx := Fin 8
abbrev PresetIx := Fin 16

/-! ## Names -/

/-- The four input classes, in order of priority (Terms; R104). -/
inductive InputClass
  | announce | lead | spoken | choir
  deriving DecidableEq, Repr

/-- The three input modes (R106). -/
inductive InputMode
  | auto | fixed | muted
  deriving DecidableEq, Repr

/-- The gate states (R104). -/
inductive GateState
  | closed | opened | hold
  deriving DecidableEq, Repr

/-- Why a route was halted (R65). -/
inductive HaltCause
  | controller | zoneFault | ring
  deriving DecidableEq, Repr

/-- The state of an occupied slot (1.3). DIPPING carries its pending delay and HALTED its halt cause, so that
each is present in that state and in no other (R4). -/
inductive RouteState
  | steady
  | ramping
  | dipping (pending : Nat)
  | retiring
  | halted (cause : HaltCause)
  deriving DecidableEq, Repr

/-- The six slot states as a selector and a record image name them (R91; 10.6, Route state). -/
inductive SlotState
  | free | steady | ramping | dipping | retiring | halted
  deriving DecidableEq, Repr

/-- The power states of a zone (7.4). -/
inductive PowerState
  | absent | standby | waking | active | fault
  deriving DecidableEq, Repr

/-- A zone's running timer with the sample periods left to its expiry (R125; Time). -/
inductive ZoneTimer
  | none
  | wake (left : Nat)
  | standby (left : Nat)
  deriving DecidableEq, Repr

/-- The clock setting (R177). -/
inductive ClockSetting
  | internal | follow
  deriving DecidableEq, Repr

/-- The clock status (R177). -/
inductive ClockStatus
  | internal | locked | fallback
  deriving DecidableEq, Repr

/-- The clock the part is running on (9.5). -/
inductive ClockSource
  | internal | house
  deriving DecidableEq, Repr

/-- The EQ band kinds (R171). -/
inductive BandKind
  | peak | lowShelf | highShelf | highPass
  deriving DecidableEq, Repr

/-- A FIXED notch carries a width, in tenths of an octave; a DYNAMIC notch lacks one (8.1). -/
inductive NotchKind
  | fixed (width : Nat)
  | dynamic
  deriving DecidableEq, Repr

/-- The thirteen notices (10.4). -/
inductive Notice
  | flipped | cueDone | cueSkipped | notify | zoneChange | zoneFault | ringAction | runaway | clock
  | storeDone | storeFailed | defaults | restarted
  deriving DecidableEq, Repr

/-- The answer statuses and the cue skip reasons (10.6, Status and reason values). -/
inductive Status
  | ok | clamped | started | exhausted
  | busy | full | exists_ | noRoute | gone | armed | halted | fault | runaway | absent | precinct | range
  | noCue | badFrame | unknown | safe | retiring
  deriving DecidableEq, Repr

/-- The modes of a FIND (R94). -/
inductive FindMode
  | stopOnMatch | stopOnMismatch
  deriving DecidableEq, Repr

/-- The actions of a SWEEP, LEVEL with its clamped level value (R95). -/
inductive SweepAction
  | retire | halt | clear | arm
  | level (value : Int)
  deriving DecidableEq, Repr

/-! ## The working copy (R195) -/

/-- A set of route parameters (R51). A bank without a delay override is geometric. -/
structure Bank where
  level  : Int
  rate   : Nat
  preset : PresetIx
  delay  : Option Nat
  deriving DecidableEq, Repr

/-- The installation fields of an input record (R104). -/
structure InputSettings where
  cls       : InputClass
  mode      : InputMode
  precinct  : PrecinctIx
  station   : StationIx
  trim      : Int
  threshold : Int
  closedAtt : Int
  hold      : Nat
  deriving DecidableEq, Repr

/-- The installation fields of a precinct record (R112). -/
structure PrecinctSettings where
  maxnom : Nat
  lastOn : Bool
  deriving DecidableEq, Repr

/-- The installation fields of a zone record (R125). The listen set holds precinct `p` (index) at bit `p`,
as its layout does (R193). -/
structure ZoneSettings where
  home          : PrecinctIx
  listen        : BitVec 4
  ceiling       : Int
  trim          : Int
  duck          : Int
  precedence    : Nat
  standbyDelay  : Nat
  wakeTime      : Nat
  installLive   : Bool
  key           : Option KeyIx
  cueSafe       : Bool
  ringWatch     : Bool
  ringThreshold : Int
  persistence   : Nat
  release       : Nat
  deriving DecidableEq, Repr

/-- One band of an EQ preset (R171). -/
structure EqBand where
  kind      : BandKind
  frequency : Nat
  gain      : Option Int
  width     : Nat
  deriving DecidableEq, Repr

/-- What a STAGE-ROUTE or a SET entry asks of the staged bank's delay: nothing, the geometric marker, or an
override (R52, R72). -/
inductive DelayEdit
  | keep
  | geometric
  | override (delay : Nat)
  deriving DecidableEq, Repr

/-- A stored cue entry, its identifiers in range (R72, R73). -/
inductive CueEntry
  | place (input : InputIx) (zone : ZoneIx) (level : Int) (rate : Option Nat) (preset : Option PresetIx)
      (delay : Option Nat)
  | set (input : InputIx) (zone : ZoneIx) (level : Option Int) (rate : Option Nat)
      (preset : Option PresetIx) (delay : DelayEdit)
  | retire (input : InputIx) (zone : ZoneIx)
  | zone (zone : ZoneIx) (on : Bool)
  | notify
  deriving DecidableEq, Repr

/-- A defined cue (R71): its optional label, one byte a character, and its entries in stored order. -/
structure Cue where
  label   : Option (List Byte)
  entries : List CueEntry
  deriving DecidableEq, Repr

/-- A FIXED notch as the working copy holds it in its slot (R150). -/
structure FixedNotch where
  bin   : Nat
  depth : Int
  width : Nat
  deriving DecidableEq, Repr

/-- The working copy of the installation (R195). -/
structure WorkingCopy where
  inputs    : Table InputSettings 32
  precincts : Table PrecinctSettings 4
  zones     : Table ZoneSettings 24
  geometry  : Table (Table Nat 24) 16
  presets   : Table (List EqBand) 15
  cues      : Table (Option Cue) 64
  notches   : Table (Table (Option FixedNotch) 8) 24
  deriving DecidableEq, Repr

end Sys2Proof
end

