-- ==== Sys2Proof/Syntax.lean ====
section
/-! DEFINITION. The commands of the NW3224: one constructor of `Instr` for each row of spec/opcode_table.json.

A REQUEST carries its fields as a frame body gives them (R193): identifiers and codes as plain numbers, in the
manual's own numbering (inputs, zones, precincts, stations and keys from 1), quantities as the integers their
bytes encode. The owner's checks judge them, as the manual has it ("values within their width but outside their
range are judged by the owner"). An EVENT carries what the building's lines or the passing of time bring. -/

namespace Sys2Proof

/-- How a request names a route: by slot, or by the key (input, zone) (R3). Every slot number is in range. -/
inductive RouteName
  | slot (slot : SlotIx)
  | key (input zone : Nat)
  deriving DecidableEq, Repr

/-- The optional fields of STAGE-ROUTE (R52). -/
structure StageFields where
  level     : Option Int := none
  rate      : Option Nat := none
  preset    : Option Nat := none
  delay     : Option Nat := none
  geometric : Bool := false
  deriving DecidableEq, Repr

/-- A cue entry as WRITE-CUE carries it (R72, R73). An entry of an unknown kind has no layout, so no frame body
the port takes holds one (R193). -/
inductive EntryForm
  | place (input zone : Nat) (level : Int) (rate preset delay : Option Nat)
  | set (input zone : Nat) (level : Option Int) (rate preset delay : Option Nat) (geometric : Bool)
  | retire (input zone : Nat)
  | zone (zone on : Nat)
  | notify
  | unknown (kind : Nat)
  deriving DecidableEq, Repr

/-- What WRITE-CUE carries beside the cue number: the undefine marker, or a label and a list of entries (R73). -/
inductive CueForm
  | undefine
  | define (label : List Byte) (entries : List EntryForm)
  deriving DecidableEq, Repr

/-- A selector as FIND-ROUTES and SWEEP-ROUTES carry it: eight optional fields, each a number or a code
(R91, R194). -/
structure SelectorForm where
  input    : Option Nat := none
  zone     : Option Nat := none
  precinct : Option Nat := none
  cls      : Option Nat := none
  state    : Option Nat := none
  armed    : Option Nat := none
  cause    : Option Nat := none
  limited  : Option Nat := none
  deriving DecidableEq, Repr

/-- The optional fields of SET-INPUT (R116). -/
structure InputFields where
  cls       : Option Nat := none
  mode      : Option Nat := none
  precinct  : Option Nat := none
  station   : Option Nat := none
  trim      : Option Int := none
  threshold : Option Int := none
  closedAtt : Option Int := none
  hold      : Option Nat := none
  deriving DecidableEq, Repr

/-- The optional fields of SET-ZONE (R144). -/
structure ZoneFields where
  home          : Option Nat := none
  listen        : Option Byte := none
  ceiling       : Option Int := none
  trim          : Option Int := none
  duck          : Option Int := none
  precedence    : Option Nat := none
  standbyDelay  : Option Nat := none
  wakeTime      : Option Nat := none
  installLive   : Option Nat := none
  key           : Option Nat := none
  noKey         : Bool := false
  cueSafe       : Option Nat := none
  ringWatch     : Option Nat := none
  ringThreshold : Option Int := none
  persistence   : Option Nat := none
  release       : Option Nat := none
  deriving DecidableEq, Repr

/-- An EQ band as SET-EQ carries it (R171, R173). -/
structure BandForm where
  kind      : Nat
  frequency : Nat
  gain      : Option Int
  width     : Nat
  deriving DecidableEq, Repr

/-! ## The external flash (R197, R198)

A stored value may be out of every range, so a snapshot is held in the numbers and codes of the requests that write
its parts (R195). -/

/-- An input record as stored (R104). -/
structure StoredInput where
  cls       : Nat
  mode      : Nat
  precinct  : Nat
  station   : Nat
  trim      : Int
  threshold : Int
  closedAtt : Int
  hold      : Nat
  deriving DecidableEq, Repr

/-- A precinct record as stored (R112). -/
structure StoredPrecinct where
  maxnom : Nat
  lastOn : Nat
  deriving DecidableEq, Repr

/-- A zone record as stored (R125). -/
structure StoredZone where
  home          : Nat
  listen        : Byte
  ceiling       : Int
  trim          : Int
  duck          : Int
  precedence    : Nat
  standbyDelay  : Nat
  wakeTime      : Nat
  installLive   : Nat
  key           : Option Nat
  cueSafe       : Nat
  ringWatch     : Nat
  ringThreshold : Int
  persistence   : Nat
  release       : Nat
  deriving DecidableEq, Repr

/-- A defined cue as stored (R71). -/
structure StoredCue where
  label   : List Byte
  entries : List EntryForm
  deriving DecidableEq, Repr

/-- A FIXED notch as stored (R150). -/
structure StoredNotch where
  slot  : Nat
  bin   : Nat
  depth : Int
  width : Nat
  deriving DecidableEq, Repr

/-- A snapshot of the working copy as the flash holds it (R195, R198). -/
structure Snapshot where
  inputs    : Table StoredInput 32
  precincts : Table StoredPrecinct 4
  zones     : Table StoredZone 24
  geometry  : Table (Table Nat 24) 16
  presets   : Table (List BandForm) 15
  cues      : Table (Option StoredCue) 64
  notches   : Table (List StoredNotch) 24
  deriving DecidableEq, Repr

/-- The external flash as a start-up finds it (R198): whether it answers, and the image's three parts. The manual gives
neither the mark's value nor the snapshot's bytes: DESIGN CHOICE (notes/assumptions/6.md). -/
structure FlashImage where
  answers  : Bool
  mark     : Word16
  snapshot : Snapshot
  sum      : Word16
  deriving DecidableEq, Repr

/-- The commands, one for each row of the opcode table. -/
inductive Instr
  /-- PLACE_ROUTE (R6, R7). -/
  | placeRoute (input zone : Nat) (level : Int) (rate preset delay : Option Nat)
  /-- READ_ROUTE (R23). -/
  | readRoute (name : RouteName)
  /-- RETIRE_ROUTE (R17). -/
  | retireRoute (name : RouteName)
  /-- STAGE_ROUTE (R52, R53); the base is its code, 0 COPY-LIVE and 1 KEEP. -/
  | stageRoute (name : RouteName) (base : Nat) (fields : StageFields)
  /-- ARM_ROUTE (R56). -/
  | armRoute (name : RouteName)
  /-- HALT_ROUTE (R64). -/
  | haltRoute (name : RouteName)
  /-- CLEAR_ROUTE (R66). -/
  | clearRoute (name : RouteName)
  /-- WRITE_CUE (R73). -/
  | writeCue (cue : Nat) (form : CueForm)
  /-- READ_CUE (R75). -/
  | readCue (cue : Nat)
  /-- FIRE_CUE (R77). -/
  | fireCue (cue : Nat)
  /-- READ_CUE_QUEUE (R78). -/
  | readCueQueue
  /-- READ_CUE_RESULT (R88). -/
  | readCueResult
  /-- FIND_ROUTES (R94); the mode is its code. -/
  | findRoutes (start : SlotIx) (count mode : Nat) (sel : SelectorForm)
  /-- SWEEP_ROUTES (R95); the action is its code, the level value that of LEVEL. -/
  | sweepRoutes (start : SlotIx) (count action : Nat) (sel : SelectorForm) (level : Option Int)
  /-- SET_INPUT (R116). -/
  | setInput (input : Nat) (fields : InputFields)
  /-- READ_INPUT (R121). -/
  | readInput (input : Nat)
  /-- SET_PRECINCT (R122); LAST-ON is its code, 0 off and 1 on. -/
  | setPrecinct (precinct : Nat) (maxnom lastOn : Option Nat)
  /-- READ_PRECINCT (R123). -/
  | readPrecinct (precinct : Nat)
  /-- SET_ZONE (R144). -/
  | setZone (zone : Nat) (fields : ZoneFields)
  /-- READ_ZONE (R147). -/
  | readZone (zone : Nat)
  /-- ZONE_LIVE (R130); the setting is its code, 0 off and 1 on. -/
  | zoneLive (zone setting : Nat)
  /-- SET_GEOMETRY (R148). -/
  | setGeometry (station zone distance : Nat)
  /-- READ_GEOMETRY (R149). -/
  | readGeometry (station zone : Nat)
  /-- PIN_NOTCH (R161). -/
  | pinNotch (zone bin : Nat) (depth : Int) (width : Nat)
  /-- DROP_NOTCH (R162). -/
  | dropNotch (zone slot : Nat)
  /-- READ_NOTCHES (R163). -/
  | readNotches (zone : Nat)
  /-- CLEAR_RING (R164). -/
  | clearRing (zone : Nat)
  /-- SET_EQ (R173). -/
  | setEq (preset : Nat) (bands : List BandForm)
  /-- READ_EQ (R174). -/
  | readEq (preset : Nat)
  /-- SET_CLOCK (R179); the setting is its code. -/
  | setClock (setting : Nat)
  /-- READ_CLOCK (R179). -/
  | readClock
  /-- NOTICES (R190). -/
  | notices
  /-- SET_NOTICE_MASK (R191), with the notice word carried. -/
  | setNoticeMask (word : Word16)
  /-- STORE (R196). -/
  | store
  /-- RESTART (R186, R201). -/
  | restart
  /-- UNKNOWN_KIND_FRAME (R185): a complete frame with a valid CHECK, its KIND in no table. -/
  | unknownKindFrame (kind : Byte) (body : List Byte)
  /-- BYTE_RECEIVED (R183). -/
  | byteReceived (byte : Byte)
  /-- GAP_TIMEOUT (R184): the gap timer has passed 20 ms. -/
  | gapTimeout
  /-- ANSWER_SENT (R187): the stop bit of an answer's last byte has gone out. -/
  | answerSent
  /-- BLOCK_COMPLETION (R27). The operands say which of the orders the manual allows has come about: whether
  the gate unit's work was taken before the route engine's (R28), and how many of the take's ZONE entries the
  zone controller took before step 3 (R85). -/
  | blockCompletion (gateFirst : Bool) (zonesFirst : Nat)
  /-- ANALYSIS_FRAME_END (R152). -/
  | analysisFrameEnd
  /-- FRAME_RESULT (R153) of one zone. The levels come from the frame's own samples and not with the event, so that
  its second operand has nothing to say (notes/assumptions/4.md). -/
  | frameResult (zone : Nat) (levels : Unit)
  /-- AMPOK_LINE_CHANGE (R129): the raw level of a zone's amplifier-status line, OK or fault. -/
  | ampokLineChange (zone : Nat) (ok : Bool)
  /-- AMP_STATUS_DEBOUNCED (R137): a zone's amplifier-status line has kept its level for 100 ms. -/
  | ampStatusDebounced (zone : Nat)
  /-- KEY_LINE_CHANGE (R129): the raw level of a key line, on or off. -/
  | keyLineChange (key : Nat) (on : Bool)
  /-- KEY_DEBOUNCED (R128): a key line has kept its level for 50 ms. -/
  | keyDebounced (key : Nat)
  /-- WAKE_TIMER_EXPIRY (R134). -/
  | wakeTimerExpiry (zone : Nat)
  /-- STANDBY_TIMER_EXPIRY (R135). -/
  | standbyTimerExpiry (zone : Nat)
  /-- HOUSE_CLOCK_LOST (R178): a bad period, or no edge within two periods. -/
  | houseClockLost
  /-- HOUSE_CLOCK_RETURNED (R177): a good period after absence. -/
  | houseClockReturned
  /-- HOUSE_CLOCK_LOCK (R178): the house clock has been present for 1 s without a break. -/
  | houseClockLock
  /-- HOUSE_CLOCK_MOVE (R178): the waiting move to the house clock is made. -/
  | houseClockMove
  /-- STORE_WRITE_DONE (R197). -/
  | storeWriteDone
  /-- STORE_WRITE_FAILED (R197), with what the failed write left in the flash. -/
  | storeWriteFailed (left : FlashImage)
  /-- STORE_STAGE_TIMEOUT (R197), with what the failed write left in the flash. -/
  | storeStageTimeout (left : FlashImage)
  /-- RST_L_LOW (R200): RST_L goes low, or power comes up. -/
  | rstLLow
  /-- POWER_LOSS (R197). -/
  | powerLoss
  /-- START_UP_SEQUENCE (R200). -/
  | startUpSequence
  /-- RESTART_SEQUENCE (R201). -/
  | restartSequence
  /-- SAMPLE_PERIOD (R168), with the samples of channels 1..8 of the lanes AIN 1..4. -/
  | samplePeriod (ain : Table (Table SampleWord 8) 4)
  deriving DecidableEq, Repr

end Sys2Proof
end

