-- ==== Sys2Proof/Decode.lean ====
section
/-! DEFINITION. The words of the opcode table. The NW3224 is a block: its table gives no row any bits
("fixed" and "fields" are empty for all 60 rows), so no word spells a command. Requests are read from the bytes
of the control line instead (Machine/Frames.lean, R193). -/

namespace Sys2Proof

/-- The command that a word of the opcode table spells: none, since the table gives its rows no bits. -/
def decodeTableWord (_nbits _w : Nat) : Option Instr :=
  none

end Sys2Proof
end

