-- ==== Sys2Proof/Machine/Codes.lean ====
section
/-! DEFINITION. The code tables of 10.6: KIND values, statuses, and the codes of every fixed set of names, each
read and written from one table. -/

namespace Sys2Proof.Machine

/-! ## KIND values (10.6) -/

abbrev Kind.placeRoute : Byte := 0x01
abbrev Kind.readRoute : Byte := 0x02
abbrev Kind.retireRoute : Byte := 0x03
abbrev Kind.stageRoute : Byte := 0x04
abbrev Kind.armRoute : Byte := 0x05
abbrev Kind.haltRoute : Byte := 0x06
abbrev Kind.clearRoute : Byte := 0x07
abbrev Kind.writeCue : Byte := 0x10
abbrev Kind.readCue : Byte := 0x11
abbrev Kind.fireCue : Byte := 0x12
abbrev Kind.readCueQueue : Byte := 0x13
abbrev Kind.readCueResult : Byte := 0x14
abbrev Kind.findRoutes : Byte := 0x18
abbrev Kind.sweepRoutes : Byte := 0x19
abbrev Kind.setInput : Byte := 0x20
abbrev Kind.readInput : Byte := 0x21
abbrev Kind.setPrecinct : Byte := 0x22
abbrev Kind.readPrecinct : Byte := 0x23
abbrev Kind.setZone : Byte := 0x28
abbrev Kind.readZone : Byte := 0x29
abbrev Kind.zoneLive : Byte := 0x2A
abbrev Kind.setGeometry : Byte := 0x2B
abbrev Kind.readGeometry : Byte := 0x2C
abbrev Kind.pinNotch : Byte := 0x30
abbrev Kind.dropNotch : Byte := 0x31
abbrev Kind.readNotches : Byte := 0x32
abbrev Kind.clearRing : Byte := 0x33
abbrev Kind.setEq : Byte := 0x38
abbrev Kind.readEq : Byte := 0x39
abbrev Kind.setClock : Byte := 0x3A
abbrev Kind.readClock : Byte := 0x3B
abbrev Kind.notices : Byte := 0x40
abbrev Kind.setNoticeMask : Byte := 0x41
abbrev Kind.store : Byte := 0x48
abbrev Kind.restart : Byte := 0x49

/-- Every KIND of the table; every other value is answered UNKNOWN (10.6). -/
def knownKinds : List Byte :=
  [Kind.placeRoute, Kind.readRoute, Kind.retireRoute, Kind.stageRoute, Kind.armRoute, Kind.haltRoute,
   Kind.clearRoute, Kind.writeCue, Kind.readCue, Kind.fireCue, Kind.readCueQueue, Kind.readCueResult,
   Kind.findRoutes, Kind.sweepRoutes, Kind.setInput, Kind.readInput, Kind.setPrecinct, Kind.readPrecinct,
   Kind.setZone, Kind.readZone, Kind.zoneLive, Kind.setGeometry, Kind.readGeometry, Kind.pinNotch,
   Kind.dropNotch, Kind.readNotches, Kind.clearRing, Kind.setEq, Kind.readEq, Kind.setClock, Kind.readClock,
   Kind.notices, Kind.setNoticeMask, Kind.store, Kind.restart]

/-! ## Status and reason values (10.6) -/

/-- The byte of a status or a skip reason. -/
def statusCode : Status → Byte
  | .ok => 0x00
  | .clamped => 0x01
  | .started => 0x02
  | .exhausted => 0x03
  | .busy => 0x10
  | .full => 0x11
  | .exists_ => 0x12
  | .noRoute => 0x13
  | .gone => 0x14
  | .armed => 0x15
  | .halted => 0x16
  | .fault => 0x17
  | .runaway => 0x18
  | .absent => 0x19
  | .precinct => 0x1A
  | .range => 0x1B
  | .noCue => 0x1C
  | .badFrame => 0x1E
  | .unknown => 0x1F
  | .safe => 0x20
  | .retiring => 0x21

/-! ## Codes (10.6): what a name is written as, and the name a code stands for -/

def classCode : InputClass → Nat
  | .announce => 0
  | .lead => 1
  | .spoken => 2
  | .choir => 3

def class? : Nat → Option InputClass
  | 0 => some .announce
  | 1 => some .lead
  | 2 => some .spoken
  | 3 => some .choir
  | _ => none

def modeCode : InputMode → Nat
  | .auto => 0
  | .fixed => 1
  | .muted => 2

def mode? : Nat → Option InputMode
  | 0 => some .auto
  | 1 => some .fixed
  | 2 => some .muted
  | _ => none

def gateCode : GateState → Nat
  | .closed => 0
  | .opened => 1
  | .hold => 2

def causeCode : HaltCause → Nat
  | .controller => 1
  | .zoneFault => 2
  | .ring => 3

def cause? : Nat → Option HaltCause
  | 1 => some .controller
  | 2 => some .zoneFault
  | 3 => some .ring
  | _ => none

def slotStateCode : SlotState → Nat
  | .free => 0
  | .steady => 1
  | .ramping => 2
  | .dipping => 3
  | .retiring => 4
  | .halted => 5

def slotState? : Nat → Option SlotState
  | 0 => some .free
  | 1 => some .steady
  | 2 => some .ramping
  | 3 => some .dipping
  | 4 => some .retiring
  | 5 => some .halted
  | _ => none

def findMode? : Nat → Option FindMode
  | 0 => some .stopOnMatch
  | 1 => some .stopOnMismatch
  | _ => none

def bandKindCode : BandKind → Nat
  | .peak => 0
  | .lowShelf => 1
  | .highShelf => 2
  | .highPass => 3

def bandKind? : Nat → Option BandKind
  | 0 => some .peak
  | 1 => some .lowShelf
  | 2 => some .highShelf
  | 3 => some .highPass
  | _ => none

def notchKindCode : NotchKind → Nat
  | .fixed _ => 0
  | .dynamic => 1

def powerCode : PowerState → Nat
  | .absent => 0
  | .standby => 1
  | .waking => 2
  | .active => 3
  | .fault => 4

def timerCode : ZoneTimer → Nat
  | .none => 0
  | .wake _ => 1
  | .standby _ => 2

def settingCode : ClockSetting → Nat
  | .internal => 0
  | .follow => 1

def setting? : Nat → Option ClockSetting
  | 0 => some .internal
  | 1 => some .follow
  | _ => none

def clockStatusCode : ClockStatus → Nat
  | .internal => 0
  | .locked => 1
  | .fallback => 2

/-- On or off, yes or no, present or absent, set or clear (R193). -/
def flagCode (b : Bool) : Nat :=
  if b then 1 else 0

def flag? : Nat → Option Bool
  | 0 => some false
  | 1 => some true
  | _ => none

/-! ## The notice word (10.6) -/

/-- The bit of a notice. -/
def noticeBit : Notice → Nat
  | .flipped => 0
  | .cueDone => 1
  | .cueSkipped => 2
  | .notify => 3
  | .zoneChange => 4
  | .zoneFault => 5
  | .ringAction => 6
  | .runaway => 7
  | .clock => 8
  | .storeDone => 9
  | .storeFailed => 10
  | .defaults => 11
  | .restarted => 12

end Sys2Proof.Machine
end

