-- ==== Sys2Proof/Machine/Filters.lean ====
section
/-! DEFINITION. What the manual says of the filters and of the analysis transform, whose insides it does not give
("Each filter is fixed by the response its rule states", R175): the response of an EQ band (R171) and of a notch
(R175), and the level of an analysis bin with its anchor (R153). DESIGN CHOICE where a response is put in numbers
(notes/assumptions/3.md, 4.md). -/

namespace Sys2Proof

/-- What one filter remembers between samples (R172, R175). The manual gives its silence, written `[]`, and
nothing else of its form. -/
abbrev FilterMemory := List Int

/-- A notch as the signal engine cuts it (R175): centre bin, depth in qdB, width in tenths of an octave. -/
structure NotchCut where
  bin   : Nat
  depth : Int
  width : Nat
  deriving DecidableEq, Repr

/-- One filter at work on one sample: the memory after it, and the value it gives. -/
abbrev SampleFilter := FilterMemory → Int → FilterMemory × Int

/-- The memory of a filter after the first `n` samples, begun from silence. -/
def SampleFilter.memory (f : SampleFilter) (x : Nat → Int) : Nat → FilterMemory
  | 0 => []
  | n + 1 => (f (SampleFilter.memory f x n) (x n)).1

/-- What a filter begun from silence gives for sample `n`. -/
def SampleFilter.output (f : SampleFilter) (x : Nat → Int) (n : Nat) : Int :=
  (f (SampleFilter.memory f x n) (x n)).2

/-- The samples of a tone at 48,000 samples a second, each to the nearest integer. -/
def IsTone (hz amplitude phase : ℝ) (x : Nat → Int) : Prop :=
  ∀ n : Nat, x n = round (amplitude * Real.cos (2 * Real.pi * hz * n / 48000 + phase))

/-- The response of a filter at a frequency is `q` qdB: once settled, it gives every tone back with its amplitude
times 10^(q/80), shifted by a phase of the filter's own, but for an error that does not grow with the tone. -/
def Responds (f : SampleFilter) (hz q : ℝ) : Prop :=
  ∃ shift error : ℝ, ∀ amplitude phase : ℝ, 0 ≤ amplitude → ∀ x, IsTone hz amplitude phase x →
    ∃ settled, ∀ n, settled ≤ n →
      |(SampleFilter.output f x n : ℝ)
          - amplitude * (10 : ℝ) ^ (q / 80) * Real.cos (2 * Real.pi * hz * n / 48000 + phase + shift)| ≤ error

/-- `q` qdB at the centre, and half of it half the width above and half the width below, where that is a frequency the
samples can carry (R175). The width is in tenths of an octave. -/
def Bell (f : SampleFilter) (hz q width : ℝ) : Prop :=
  Responds f hz q
  ∧ ∀ side, side = hz * 2 ^ (width / 20) ∨ side = hz * 2 ^ (-(width / 20)) → side < 24000 → Responds f side (q / 2)

/-! ## The bands (R171) -/

/-- A band as a preset holds it: its quantities in their ranges, and no gain exactly where it is a HIGH-PASS. -/
def EqBand.InTable (b : EqBand) : Prop :=
  20 ≤ b.frequency ∧ b.frequency ≤ 20000 ∧ 1 ≤ b.width ∧ b.width ≤ 40 ∧ (b.kind = .highPass ↔ b.gain = none)

/-- The two ends of a band's width, half of it below the band's frequency and half above. -/
def EqBand.Ends (b : EqBand) (low high : ℝ) : Prop :=
  low = b.frequency * 2 ^ (-((b.width : ℝ) / 20)) ∧ high = b.frequency * 2 ^ ((b.width : ℝ) / 20)

/-- "Well below" a band: four octaves or more below the low end of its width. -/
def WellBelow (low hz : ℝ) : Prop := 0 ≤ hz ∧ 16 * hz ≤ low

/-- "Well above" a band: four octaves or more above the high end of its width, at a frequency the samples can carry. A
frequency counts by its ratio to what is left up to 24,000 Hz, since no higher one can be carried. -/
def WellAbove (high hz : ℝ) : Prop :=
  high < hz ∧ hz < 24000 ∧ 16 * high * (24000 - hz) ≤ hz * (24000 - high)

/-- The level toward 24,000 Hz, which lies well above every band. -/
def EndsAt (level : ℝ → ℝ) (q : ℝ) : Prop :=
  Filter.Tendsto level (nhdsWithin 24000 (Set.Iio 24000)) (nhds q)

/-- The response of a PEAK of centre `centre`: its gain at the centre, half of it at either end of the width, no
farther from 0 qdB with any step away from the centre, 0 qdB at 0 Hz and toward 24,000 Hz, and within half a qdB of 0
well below and well above. -/
def PeakShape (centre low high : ℝ) (gain : Int) (level : ℝ → ℝ) : Prop :=
  level centre = gain ∧ level low = gain / 2 ∧ (high < 24000 → level high = gain / 2)
  ∧ (∀ near far, 0 ≤ far → far ≤ near → near ≤ centre → |level far| ≤ |level near|)
  ∧ (∀ near far, centre ≤ near → near ≤ far → far < 24000 → |level far| ≤ |level near|)
  ∧ level 0 = 0 ∧ EndsAt level 0
  ∧ (-60 ≤ gain → gain ≤ 48 → ∀ hz, WellBelow low hz ∨ WellAbove high hz → |level hz| ≤ 1 / 2)

/-- The response of a shelf of corner `corner` that gives `below` qdB below it and `above` above it: half of both at the
corner, `below` at 0 Hz and `above` toward 24,000 Hz, no step of it turning back, either within half a qdB well below
and well above, and between the ends of the width, or up to 24,000 Hz where that comes first, more than half of the
change. -/
def ShelfShape (corner low high : ℝ) (below above : Int) (level : ℝ → ℝ) : Prop :=
  level corner = (below + above) / 2 ∧ level 0 = below ∧ EndsAt level above
  ∧ (∀ hz hz', 0 ≤ hz → hz ≤ hz' → hz' < 24000 → (above - below) * level hz ≤ (above - below) * level hz')
  ∧ (-60 ≤ below + above → below + above ≤ 48 → ∀ hz,
    (WellBelow low hz → |level hz - below| ≤ 1 / 2) ∧ (WellAbove high hz → |level hz - above| ≤ 1 / 2))
  ∧ (high < 24000 → below ≠ above → (above - below : ℝ) ^ 2 / 2 < (above - below) * (level high - level low))
  ∧ (24000 ≤ high → below ≠ above → (above - below : ℝ) ^ 2 / 2 < (above - below) * (above - level low))

/-- The response of a HIGH-PASS of cut-off `cut`: −12 qdB there; falling with every step below it, and without bound;
above it no farther from 0 qdB with any step up, 0 qdB toward 24,000 Hz, and within half a qdB of 0 well above. -/
def HighPassShape (cut high : ℝ) (level : ℝ → ℝ) : Prop :=
  level cut = -12 ∧ StrictMonoOn level (Set.Ioc 0 cut)
  ∧ (∀ q, ∃ floor > 0, ∀ hz, 0 < hz → hz < floor → level hz ≤ q)
  ∧ (∀ near far, cut ≤ near → near ≤ far → far < 24000 → |level far| ≤ |level near|)
  ∧ EndsAt level 0
  ∧ ∀ hz, WellAbove high hz → |level hz| ≤ 1 / 2

/-- The response of a band over the frequencies, kind by kind. -/
def BandResponse (b : EqBand) (level : ℝ → ℝ) : Prop :=
  ∀ low high, b.Ends low high →
    match b.kind, b.gain with
    | .peak, some g => PeakShape b.frequency low high g level
    | .lowShelf, some g => ShelfShape b.frequency low high g 0 level
    | .highShelf, some g => ShelfShape b.frequency low high 0 g level
    | .highPass, none => HighPassShape b.frequency high level
    | .peak, none | .lowShelf, none | .highShelf, none | .highPass, some _ => True

/-- The corner of one HIGH-PASS is sharper than that of another of the same cut-off: it lets less through below and more
above. -/
def Sharper (cut : ℝ) (level other : ℝ → ℝ) : Prop :=
  (∀ hz, 0 < hz → hz < cut → level hz < other hz) ∧ ∀ hz, cut < hz → hz < 24000 → other hz < level hz

/-- The EQ bands have at every frequency the samples can carry the level `level` gives them, which is shaped as R171
says, and the narrower of two HIGH-PASS bands has the sharper corner. A HIGH-PASS has no level at 0 Hz. -/
def EqResponse (filter : EqBand → SampleFilter) (level : EqBand → ℝ → ℝ) : Prop :=
  (∀ b : EqBand, b.InTable → BandResponse b (level b)
    ∧ ∀ hz : ℝ, 0 ≤ hz → hz < 24000 → (b.kind = .highPass → 0 < hz) → Responds (filter b) hz (level b hz))
  ∧ ∀ b b' : EqBand, b.InTable → b'.InTable → b.kind = .highPass → b'.kind = .highPass → b.frequency = b'.frequency →
    b.width < b'.width → Sharper b.frequency (level b) (level b')

/-- The filters of the part: each EQ band and each notch, silent from silence, with the responses of R171 and R175. -/
structure FilterBank where
  eq             : EqBand → SampleFilter
  notch          : NotchCut → SampleFilter
  eq_silent      : ∀ b, eq b [] 0 = ([], 0)
  notch_silent   : ∀ c, notch c [] 0 = ([], 0)
  eq_flat        : ∀ b m x, b.kind ≠ .highPass → b.gain = some 0 → (eq b m x).2 = x
  eq_response    : ∃ level, EqResponse eq level
  notch_response : ∀ c : NotchCut, 4 ≤ c.bin → c.bin ≤ 511 → 1 ≤ c.width → c.width ≤ 10 →
    Bell (notch c) (c.bin * 23.4375) (-c.depth) c.width

/-! ## Bin levels (R153) -/

/-- Whether `80·log10(m / full)` is at least `q − 1/2`, put in whole numbers. -/
def levelAtLeast (full m : Nat) (q : Int) : Bool :=
  full ^ 160 * 10 ^ (2 * q - 1).toNat ≤ m ^ 160 * 10 ^ (1 - 2 * q).toNat

/-- The greatest `q` from `q` down, of the `k` tried, that the magnitude reaches. -/
def searchLevel (full m : Nat) : Nat → Int → Int
  | 0, q => q
  | k + 1, q => if levelAtLeast full m q then q else searchLevel full m k (q - 1)

/-- The level of a magnitude, where a full-scale sine has the magnitude `full`: 80·log10 of their ratio, rounded to the
nearest integer and clamped to −480..+96; a magnitude of 0 gives −480 (R153). -/
def binLevel (full m : Nat) : Int :=
  if m = 0 then -480 else searchLevel full m 576 96

/-- The level of a magnitude relative to that of a full-scale sine: 80·log10 of it, rounded to the nearest integer and
clamped to −480..+96; a magnitude of 0 gives −480 (R153). -/
def IsLevel (magnitude : ℝ) (q : Int) : Prop :=
  (magnitude = 0 → q = -480) ∧ (0 < magnitude → q = max (-480) (min 96 (round (80 * Real.logb 10 magnitude))))

/-- The magnitude of bin `b` of 2,048 samples, windowed and transformed into bins 23.4375 Hz wide (R153). -/
def IsMagnitude (window sample : ℕ → ℝ) (b : ℕ) (magnitude : ℝ) : Prop :=
  magnitude =
    ‖∑ n ∈ Finset.range 2048, (window n * sample n : ℂ) * Complex.exp (-(2 * Real.pi * b * n / 2048) * Complex.I)‖

/-- A window, scaled so that a sine has its amplitude as magnitude in the bin at whose centre it lies, whatever its
phase: without that no magnitude would be "relative to a full-scale sine at the bin's centre" (R153). -/
def IsWindow (window : ℕ → ℝ) : Prop :=
  ∀ b : ℕ, 4 ≤ b → b ≤ 511 → ∀ phase : ℝ, IsMagnitude window (fun n => Real.cos (2 * Real.pi * b * n / 2048 + phase)) b 1

/-- The window and transform of the ring detector: the magnitude of each bin of 2,048 samples, oldest first, and the
magnitude of a full-scale sine. Silence has magnitude 0. Every frame's magnitudes are those of a windowed transform, to
half of a sample's last place, or of the like part of the loudest sample where that is beyond full scale. A sine at a
bin's centre has its own amplitude there, to the last places of its samples, and one of full scale gives the bin the
level 0 (R153). -/
structure Analysis where
  full      : Nat
  magnitude : List Int → Nat → Nat
  silent    : ∀ b, magnitude (List.replicate 2048 0) b = 0
  transform : ∃ window, IsWindow window ∧
    ∀ (frame : List Int) (b : Nat) (peak ideal : ℝ), frame.length = 2048 → 4 ≤ b → b ≤ 511 → 8388608 ≤ peak →
      (∀ v, v ∈ frame → |(v : ℝ)| ≤ peak) → IsMagnitude window (fun n => frame.getD n 0) b ideal →
      |8388608 * (magnitude frame b / full) - ideal| ≤ peak / 2 ^ 24
  sine      : ∀ b : Nat, 4 ≤ b → b ≤ 511 → ∀ amplitude phase x, 0 ≤ amplitude → IsTone (b * 23.4375) amplitude phase x →
    |8388608 * (magnitude ((List.range 2048).map x) b / full) - amplitude| ≤ 2 + amplitude / 2 ^ 23
  anchor    : ∀ b : Nat, 4 ≤ b → b ≤ 511 → ∀ phase x, IsTone (b * 23.4375) 8388608 phase x →
    binLevel full (magnitude ((List.range 2048).map x) b) = 0

end Sys2Proof
end

