-- ==== Sys2Proof/Laws/Witness.lean ====
section
/-! SUPPORT. Filters and a transform of the kind the manual describes exist, so that Config can name some. These
examples serve that proof alone: the model's filters and transform are opaque, and nothing of the examples is known
of them. An example filter tells how often its input turns, and scales it by a rational number that tends to the gain
of the band at that frequency. The example transform weighs all samples alike and turns by rational numbers. -/

namespace Sys2Proof.Witness
open Filter Topology

/-! ## Roots in whole numbers -/

/-- The greatest whole number that is at most `N` times the `d`-th root of `a / b`. -/
def rootNat (d a b N : Nat) : Nat := Nat.findGreatest (fun c => c ^ d * b ≤ N ^ d * a) (N * a)

/-- The `d`-th root of `a / b`, to the nearest `k + 1`-th below. -/
def root (d a b k : Nat) : ℚ := rootNat d a b (k + 1) / (k + 1 : Nat)

/-- A root in whole numbers falls short of the real one by at most 1. -/
theorem rootNat_bounds {d a b : Nat} (hd : d ≠ 0) (ha : 1 ≤ a) (hb : 1 ≤ b) {r : ℝ} (h0 : 0 ≤ r) (hr : r ^ d * b = a)
    (N : Nat) : (rootNat d a b N : ℝ) ≤ N * r ∧ N * r ≤ rootNat d a b N + 1 := by
  have hb' : (1 : ℝ) ≤ b := by exact_mod_cast hb
  have ha' : (1 : ℝ) ≤ a := by exact_mod_cast ha
  have key : ∀ c : Nat, (c ^ d * b ≤ N ^ d * a) ↔ (c : ℝ) ≤ N * r := by
    intro c
    rw [← pow_le_pow_iff_left₀ (a := (c : ℝ)) (by positivity) (by positivity) hd, mul_pow,
      ← mul_le_mul_iff_left₀ (show (0 : ℝ) < b by linarith), mul_assoc ((N : ℝ) ^ d), hr]
    exact_mod_cast Iff.rfl
  have ra : r ≤ a := by
    rw [← pow_le_pow_iff_left₀ h0 (by positivity) hd]
    have h1 : r ^ d ≤ a := by rw [← hr]; exact le_mul_of_one_le_right (by positivity) hb'
    exact h1.trans (le_self_pow₀ ha' hd)
  constructor
  · rw [← key]
    exact Nat.findGreatest_spec (P := fun c => c ^ d * b ≤ N ^ d * a) (n := N * a) (m := 0) (Nat.zero_le _)
      (by simp [hd])
  · by_contra hc
    push Not at hc
    have hk := (key (rootNat d a b N + 1)).mpr (by push_cast; exact hc.le)
    by_cases hn : rootNat d a b N + 1 ≤ N * a
    · have : rootNat d a b N + 1 ≤ rootNat d a b N := Nat.le_findGreatest hn hk
      omega
    · refine hn ?_
      have : (rootNat d a b N + 1 : ℝ) ≤ N * a := hc.le.trans (by gcongr)
      exact_mod_cast this

/-- The roots tend to the real one. -/
theorem root_tendsto {d a b : Nat} (hd : d ≠ 0) (ha : 1 ≤ a) (hb : 1 ≤ b) {r : ℝ} (h0 : 0 ≤ r) (hr : r ^ d * b = a) :
    Tendsto (fun k => (root d a b k : ℝ)) atTop (𝓝 r) := by
  rw [tendsto_iff_norm_sub_tendsto_zero]
  refine squeeze_zero (fun _ => norm_nonneg _) (fun k => ?_) tendsto_one_div_add_atTop_nhds_zero_nat
  obtain ⟨h1, h2⟩ := rootNat_bounds hd ha hb h0 hr (k + 1)
  have hk : (0 : ℝ) < k + 1 := by positivity
  rw [Real.norm_eq_abs, root]
  push_cast at h1 h2 ⊢
  rw [abs_le, neg_le_sub_iff_le_add, sub_le_iff_le_add, ← add_div, le_div_iff₀ hk, div_le_iff₀ hk, add_mul,
    div_mul_cancel₀ _ hk.ne']
  constructor <;> linarith

/-- The root of 1. -/
theorem root_one (d k : Nat) : root d 1 1 k = 1 := by
  have : rootNat d 1 1 (k + 1) = k + 1 := by
    unfold rootNat
    simp only [mul_one]
    exact Nat.findGreatest_eq (P := fun c => c ^ d ≤ (k + 1) ^ d) le_rfl
  rw [root, this]
  field_simp

/-- 10^(h/160). -/
def tenth (h : Int) (k : Nat) : ℚ := root 160 (10 ^ h.toNat) (10 ^ (-h).toNat) k

/-- 2^(−w/20). -/
def half (w k : Nat) : ℚ := root 20 1 (2 ^ w) k

theorem tenth_tendsto (h : Int) : Tendsto (fun k => (tenth h k : ℝ)) atTop (𝓝 ((10 : ℝ) ^ ((h : ℝ) / 160))) := by
  refine root_tendsto (by norm_num) (Nat.one_le_pow' _ 9) (Nat.one_le_pow' _ 9) (by positivity) ?_
  have h1 : ((10 : ℝ) ^ ((h : ℝ) / 160)) ^ 160 = (10 : ℝ) ^ h := by
    rw [← Real.rpow_natCast, ← Real.rpow_mul (by norm_num), ← Real.rpow_intCast]
    congr 1
    push_cast; ring
  rw [h1]
  push_cast
  rw [← zpow_natCast, ← zpow_natCast (10 : ℝ) h.toNat, ← zpow_add₀ (by norm_num)]
  congr 1
  omega

theorem half_tendsto (w : Nat) : Tendsto (fun k => (half w k : ℝ)) atTop (𝓝 ((2 : ℝ) ^ (-((w : ℝ) / 20)))) := by
  refine root_tendsto (by norm_num) le_rfl Nat.one_le_two_pow (by positivity) ?_
  rw [← Real.rpow_natCast, ← Real.rpow_mul (by norm_num)]
  push_cast
  rw [← Real.rpow_natCast 2 w, ← Real.rpow_add (by norm_num)]
  ring_nf
  simp

/-! ## The gains of a band -/

variable {K : Type} [Field K] [LinearOrder K]

/-- 0 up to `e`, then a straight line to 1 at 1. -/
def ramp (e y : K) : K := max 0 (y - e) / (1 - e)

/-- The gain of one side of a PEAK: 1 at `y = 0`, `S` at `e` and `G` at 1. -/
def peakGain (e S G y : K) : K := 1 + (S - 1) * (min y e / e) ^ 3 + (G - S) * ramp e y

/-- The gain of a shelf: `A` where `lo` is at most `e`, `S` where both are 1, `B` where `hi` is at most `u`. -/
def shelfGain (e u A S B lo hi : K) : K := A + (S - A) * ramp e lo + (B - S) * (1 - ramp u hi)

/-- A corner, the sharper the smaller `d`. -/
def corner (d y : K) : K := y ^ 2 * (y + d * (1 - y))

/-- The gain of a HIGH-PASS: `P` where both are 1. -/
def passGain (P d lo hi : K) : K := P * corner d lo + (1 - P) * (1 - corner d hi)

/-- The gain of a band, of a frequency by its places `lo` below the band's own and `hi` above it. -/
def bandGain (kind : BandKind) (e u S G P d lo hi : K) : K :=
  match kind with
  | .peak => peakGain e S G lo + peakGain u S G hi - G
  | .lowShelf => shelfGain e u G S 1 lo hi
  | .highShelf => shelfGain e u 1 S G lo hi
  | .highPass => passGain P d lo hi

/-- The place of a frequency below the band's own `F`: from 0 at 0 Hz to 1 at `F` and above. -/
def lowPlace (F f : K) : K := min f F / F

/-- The place of a frequency above the band's own `F`: from 1 at `F` and below to 0 at 24,000 Hz. -/
def highPlace (F f : K) : K := F * (24000 - max f F) / (max f F * (24000 - F))

/-- The high place of the high end of the width, where the samples can carry that. -/
def highEnd (carried : Bool) (F e : K) : K := if carried then (24000 * e - F) / (24000 - F) else 1 / 2

theorem bandGain_cast (kind : BandKind) (e u S G P d lo hi : ℚ) :
    ((bandGain kind e u S G P d lo hi : ℚ) : ℝ) = bandGain kind (e : ℝ) u S G P d lo hi := by
  cases kind <;> simp [bandGain, peakGain, shelfGain, passGain, corner, ramp, Rat.cast_max, Rat.cast_min]

theorem place_cast (F f : ℚ) : ((lowPlace F f : ℚ) : ℝ) = lowPlace (F : ℝ) f
    ∧ ((highPlace F f : ℚ) : ℝ) = highPlace (F : ℝ) f := by
  simp [lowPlace, highPlace, Rat.cast_max, Rat.cast_min]

theorem highEnd_cast (c : Bool) (F e : ℚ) : ((highEnd c F e : ℚ) : ℝ) = highEnd c (F : ℝ) e := by
  cases c <;> simp [highEnd]

/-- A band of gain 0 that is no HIGH-PASS has the gain 1 throughout. -/
theorem bandGain_flat {kind : BandKind} (h : kind ≠ .highPass) (e u P d lo hi : K) :
    bandGain kind e u 1 1 P d lo hi = 1 := by
  cases kind <;> simp_all [bandGain, peakGain, shelfGain]

theorem bandGain_tendsto {ι : Type} {l : Filter ι} (kind : BandKind) {e u S G P lo hi : ι → ℝ}
    {d e' u' S' G' P' lo' hi' : ℝ}
    (he : Tendsto e l (𝓝 e')) (hu : Tendsto u l (𝓝 u')) (hS : Tendsto S l (𝓝 S')) (hG : Tendsto G l (𝓝 G'))
    (hP : Tendsto P l (𝓝 P')) (hl : Tendsto lo l (𝓝 lo')) (hh : Tendsto hi l (𝓝 hi'))
    (e0 : 0 < e') (e1 : e' < 1) (u0 : 0 < u') (u1 : u' < 1) :
    Tendsto (fun i => bandGain kind (e i) (u i) (S i) (G i) (P i) d (lo i) (hi i)) l
      (𝓝 (bandGain kind e' u' S' G' P' d lo' hi')) := by
  have c : ∀ a : ℝ, Tendsto (fun _ : ι => a) l (𝓝 a) := fun a => tendsto_const_nhds
  have hr : ∀ {e y : ι → ℝ} {e' y'}, Tendsto e l (𝓝 e') → e' < 1 → Tendsto y l (𝓝 y') →
      Tendsto (fun i => ramp (e i) (y i)) l (𝓝 (ramp e' y')) :=
    fun he e1 hy => ((c 0).max (hy.sub he)).div ((c 1).sub he) (by linarith)
  have hc : ∀ {y : ι → ℝ} {y'}, Tendsto y l (𝓝 y') → Tendsto (fun i => corner d (y i)) l (𝓝 (corner d y')) :=
    fun hy => (hy.pow 2).mul (hy.add ((c d).mul ((c 1).sub hy)))
  have hp : ∀ {e y : ι → ℝ} {e' y'}, Tendsto e l (𝓝 e') → 0 < e' → e' < 1 → Tendsto y l (𝓝 y') →
      Tendsto (fun i => peakGain (e i) (S i) (G i) (y i)) l (𝓝 (peakGain e' S' G' y')) :=
    fun he e0 e1 hy => ((c 1).add ((hS.sub (c 1)).mul (((hy.min he).div he e0.ne').pow 3))).add
      ((hG.sub hS).mul (hr he e1 hy))
  have hs : ∀ {A B : ι → ℝ} {A' B'}, Tendsto A l (𝓝 A') → Tendsto B l (𝓝 B') →
      Tendsto (fun i => shelfGain (e i) (u i) (A i) (S i) (B i) (lo i) (hi i)) l
        (𝓝 (shelfGain e' u' A' S' B' lo' hi')) :=
    fun hA hB => (hA.add ((hS.sub hA).mul (hr he e1 hl))).add ((hB.sub hS).mul ((c 1).sub (hr hu u1 hh)))
  cases kind
  · exact ((hp he e0 e1 hl).add (hp hu u0 u1 hh)).sub hG
  · exact hs hG (c 1)
  · exact hs (c 1) hG
  · exact (hP.mul (hc hl)).add (((c 1).sub hP).mul ((c 1).sub (hc hh)))

/-! ## A filter that tells tones apart by their turns -/

/-- A filter whose memory counts the samples since the first that was not 0 and the crossings from below 0, and keeps the
last sample; its gain goes by the two counts. -/
def detect (gain : Nat → Int → ℚ) : SampleFilter := fun m x =>
  if m = [] ∧ x = 0 then ([], 0)
  else
    let c := m.getD 1 0 + if m.getD 2 0 < 0 ∧ 0 ≤ x then 1 else 0
    ([m.getD 0 0 + 1, c, x], ⌊gain (m.getD 0 0).toNat c * x⌋)

/-- The crossings from below 0 within the `k` steps from `n` on. -/
def crossings (x : Nat → Int) (n : Nat) : Nat → Int
  | 0 => 0
  | k + 1 => crossings x n k + if x (n + k) < 0 ∧ 0 ≤ x (n + k + 1) then 1 else 0

/-- Before the first sample that is not 0, the memory is silence. -/
theorem detect_silent {gain x n} (h : ∀ j < n, x j = 0) : SampleFilter.memory (detect gain) x n = [] := by
  induction n with
  | zero => rfl
  | succ n ih => simp [SampleFilter.memory, ih fun j hj => h j (by omega), detect, h n (by omega)]

/-- From the first sample that is not 0, the memory counts samples and crossings. -/
theorem detect_memory {gain x n} (h : ∀ j < n, x j = 0) (hx : x n ≠ 0) (k : Nat) :
    SampleFilter.memory (detect gain) x (n + k + 1) = [(k : Int) + 1, crossings x n k, x (n + k)] := by
  induction k with
  | zero => simp [SampleFilter.memory, detect_silent h, detect, hx, crossings]
  | succ k ih =>
    rw [show n + (k + 1) + 1 = (n + k + 1) + 1 by omega, SampleFilter.memory, ih]
    simp [detect, crossings, Nat.add_assoc]

/-- From the first sample that is not 0, the gain goes by the counts. -/
theorem detect_output {gain x n} (h : ∀ j < n, x j = 0) (hx : x n ≠ 0) (k : Nat) :
    SampleFilter.output (detect gain) x (n + k) = ⌊gain k (crossings x n k) * x (n + k)⌋ := by
  cases k with
  | zero => simp [SampleFilter.output, detect_silent h, detect, hx, crossings]
  | succ k =>
    rw [SampleFilter.output, show n + (k + 1) = n + k + 1 by omega, detect_memory h hx]
    have e : ((k : Int) + 1).toNat = k + 1 := by omega
    simp [detect, crossings, Nat.add_assoc, e]

/-- Silence comes out as silence. -/
theorem detect_output_silent {gain x} (h : ∀ j, x j = 0) (n : Nat) :
    SampleFilter.output (detect gain) x n = 0 := by
  simp [SampleFilter.output, detect_silent fun j _ => h j, detect, h n]

/-! ## The turns of a tone -/

/-- Samples that are not negative exactly on an arc of the circle cross once a turn. -/
theorem crossings_of_turns {x : Nat → Int} {s α w : ℝ} (hα : 0 ≤ α) (h1 : α < w) (h2 : α < 1 - w)
    (h : ∀ n : Nat, 0 ≤ x n ↔ Int.fract (s + α * n) ≤ w) (n k : Nat) :
    crossings x n k = ⌊s + α * (n + k : Nat)⌋ - ⌊s + α * n⌋ := by
  induction k with
  | zero => simp [crossings]
  | succ k ih =>
    rw [crossings, ih]
    have ha := h (n + k)
    have hb := h (n + k + 1)
    set u := s + α * (n + k : Nat) with hu
    have hv : s + α * (n + k + 1 : Nat) = u + α := by rw [hu]; push_cast; ring
    rw [show n + (k + 1) = n + k + 1 by omega, hv]
    rw [hv] at hb
    have f0 := Int.floor_add_fract u
    have f1 := Int.floor_add_fract (u + α)
    have g0 := Int.fract_nonneg u
    have g1 := Int.fract_lt_one u
    have g2 := Int.fract_nonneg (u + α)
    have g3 := Int.fract_lt_one (u + α)
    have lo : ⌊u⌋ ≤ ⌊u + α⌋ := Int.floor_le_floor (by linarith)
    have hi : ⌊u + α⌋ ≤ ⌊u⌋ + 1 := by
      have : (⌊u + α⌋ : ℝ) < ⌊u⌋ + 2 := by linarith
      have : ⌊u + α⌋ < ⌊u⌋ + 2 := by exact_mod_cast this
      omega
    rcases (by omega : ⌊u + α⌋ = ⌊u⌋ ∨ ⌊u + α⌋ = ⌊u⌋ + 1) with e | e
    · rw [e]
      have e' : (⌊u + α⌋ : ℝ) = ⌊u⌋ := by exact_mod_cast e
      rw [if_neg]
      · ring
      · rintro ⟨p, q⟩
        have q' := hb.mp q
        exact absurd (ha.mpr (by linarith)) (by omega)
    · rw [e]
      have e' : (⌊u + α⌋ : ℝ) = ⌊u⌋ + 1 := by exact_mod_cast e
      rw [if_pos]
      · ring
      · constructor
        · by_contra p
          have p' := ha.mp (by omega)
          linarith
        · exact hb.mpr (by linarith)

/-- Rounding gives at least 0 from −1/2 on. -/
theorem round_nonneg_iff (y : ℝ) : 0 ≤ round y ↔ -(1 / 2) ≤ y := by
  rw [round_eq, Int.le_floor]
  constructor <;> intro h
  · push_cast at h; linarith
  · push_cast; linarith

/-- Where a cosine is at least that of an angle of the upper half turn. -/
theorem cos_ge_iff {β : ℝ} (h0 : 0 ≤ β) (h1 : β ≤ Real.pi) (t : ℝ) :
    Real.cos β ≤ Real.cos (2 * Real.pi * t) ↔ Int.fract (t + β / (2 * Real.pi)) ≤ β / Real.pi := by
  have hπ := Real.pi_pos
  set u := t + β / (2 * Real.pi) with hu
  have hc : Real.cos (2 * Real.pi * t) = Real.cos (2 * Real.pi * Int.fract u - β) := by
    have : 2 * Real.pi * t = 2 * Real.pi * Int.fract u - β + ⌊u⌋ * (2 * Real.pi) := by
      have := Int.floor_add_fract u
      have e : t = u - β / (2 * Real.pi) := by rw [hu]; ring
      rw [e, show 2 * Real.pi * (u - β / (2 * Real.pi)) = 2 * Real.pi * u - β by field_simp]
      linear_combination (-(2 * Real.pi)) * this
    rw [this, Real.cos_add_int_mul_two_pi]
  rw [hc, le_div_iff₀ hπ]
  have f0 := Int.fract_nonneg u
  have f1 := Int.fract_lt_one u
  set v := 2 * Real.pi * Int.fract u - β with hv
  constructor
  · intro h
    by_contra hf
    push Not at hf
    have a1 : β < v := by rw [hv]; linarith
    have a2 : v < 2 * Real.pi - β := by
      rw [hv]; nlinarith
    rcases le_total v Real.pi with hle | hle
    · exact absurd h (not_le.mpr (Real.cos_lt_cos_of_nonneg_of_le_pi h0 hle a1))
    · have : Real.cos v = Real.cos (2 * Real.pi - v) := by rw [Real.cos_two_pi_sub]
      rw [this] at h
      exact absurd h (not_le.mpr (Real.cos_lt_cos_of_nonneg_of_le_pi h0 (by linarith) (by linarith)))
  · intro hf
    rw [← Real.cos_abs v]
    apply Real.cos_le_cos_of_nonneg_of_le_pi (abs_nonneg _) h1
    rw [abs_le]
    constructor <;> rw [hv] <;> nlinarith

/-- A loud tone is not negative exactly on an arc of its turns; that arc and the rest are each wider than one step. -/
theorem tone_turns {hz A θ : ℝ} (h0 : 0 ≤ hz) (h1 : hz < 24000) (hA : 1 / (2 * Real.cos (Real.pi * (hz / 48000))) < A)
    {x : Nat → Int} (hx : IsTone hz A θ x) :
    ∃ s w : ℝ, hz / 48000 < w ∧ hz / 48000 < 1 - w ∧
      ∀ n : Nat, 0 ≤ x n ↔ Int.fract (s + hz / 48000 * n) ≤ w := by
  have hπ := Real.pi_pos
  set α := hz / 48000 with hα
  have hα1 : α < 1 / 2 := by rw [hα]; linarith
  have hα0 : 0 ≤ α := by rw [hα]; positivity
  have hcos : 0 < Real.cos (Real.pi * α) :=
    Real.cos_pos_of_mem_Ioo ⟨by nlinarith, by nlinarith⟩
  have hApos : 0 < A := lt_trans (by positivity) hA
  have hs : 1 / (2 * A) < Real.cos (Real.pi * α) := by
    rw [div_lt_iff₀ (by positivity)] at hA ⊢
    linarith
  have hc1 := Real.cos_le_one (Real.pi * α)
  have hpos : 0 < 1 / (2 * A) := by positivity
  set β := Real.arccos (-(1 / (2 * A))) with hβ
  have hcβ : Real.cos β = -(1 / (2 * A)) := Real.cos_arccos (by linarith) (by linarith)
  have b0 : 0 ≤ β := Real.arccos_nonneg _
  have b1 : β ≤ Real.pi := Real.arccos_le_pi _
  refine ⟨θ / (2 * Real.pi) + β / (2 * Real.pi), β / Real.pi, ?_, ?_, fun n => ?_⟩
  · rw [lt_div_iff₀ hπ]
    by_contra hc
    push Not at hc
    have : Real.cos (α * Real.pi) ≤ Real.cos β := Real.cos_le_cos_of_nonneg_of_le_pi b0 (by nlinarith) hc
    rw [hcβ, mul_comm] at this
    linarith
  · rw [lt_sub_iff_add_lt, ← lt_sub_iff_add_lt', div_lt_iff₀ hπ]
    by_contra hc
    push Not at hc
    have : Real.cos β ≤ Real.cos ((1 - α) * Real.pi) := Real.cos_le_cos_of_nonneg_of_le_pi (by nlinarith) b1 hc
    rw [hcβ, show (1 - α) * Real.pi = Real.pi - Real.pi * α by ring, Real.cos_pi_sub] at this
    linarith
  · rw [hx n, round_nonneg_iff]
    have e : -(1 / 2) ≤ A * Real.cos (2 * Real.pi * hz * n / 48000 + θ) ↔
        Real.cos β ≤ Real.cos (2 * Real.pi * (α * n + θ / (2 * Real.pi))) := by
      rw [hcβ, show 2 * Real.pi * (α * n + θ / (2 * Real.pi)) = 2 * Real.pi * hz * n / 48000 + θ by
        rw [hα]; field_simp]
      rw [show -(1 / (2 * A)) = -(1/2) / A by field_simp, div_le_iff₀ hApos, mul_comm]
    rw [e, cos_ge_iff b0 b1, show α * n + θ / (2 * Real.pi) + β / (2 * Real.pi) =
      θ / (2 * Real.pi) + β / (2 * Real.pi) + α * n by ring]

/-- Counts that go with a frequency, within one turn. -/
def counts (hz : ℝ) : Filter (ℕ × ℤ) :=
  atTop.comap Prod.fst ⊓ 𝓟 {p | |(p.2 : ℝ) - hz / 48000 * p.1| ≤ 1}

/-- What the gain `g` makes of a tone is near the tone at gain `γ` as far as `g` is near `γ`. -/
theorem tone_error {hz A θ : ℝ} {x : Nat → Int} (hA : 0 ≤ A) (hx : IsTone hz A θ x) (g : ℚ) {γ : ℝ} (hγ : 0 ≤ γ)
    (n : Nat) : |(⌊g * x n⌋ : ℝ) - A * γ * Real.cos (2 * Real.pi * hz * n / 48000 + θ)|
      ≤ 1 + |(g : ℝ) - γ| * (A + 1) + γ := by
  have h2 := abs_sub_round (A * Real.cos (2 * Real.pi * hz * n / 48000 + θ))
  rw [← hx n] at h2
  have c1 := Real.abs_cos_le_one (2 * Real.pi * hz * n / 48000 + θ)
  set c := Real.cos (2 * Real.pi * hz * n / 48000 + θ)
  have f : |(⌊g * x n⌋ : ℝ) - g * x n| ≤ 1 := by
    have a1 : (⌊g * x n⌋ : ℝ) ≤ g * x n := by exact_mod_cast Int.floor_le (g * (x n : ℚ))
    have a2 : (g * x n : ℝ) < ⌊g * x n⌋ + 1 := by exact_mod_cast Int.lt_floor_add_one (g * (x n : ℚ))
    rw [abs_le]; constructor <;> linarith
  have hxn : |(x n : ℝ)| ≤ A + 1 := by
    calc |(x n : ℝ)| = |A * c - (A * c - x n)| := by ring_nf
      _ ≤ |A * c| + |A * c - x n| := abs_sub _ _
      _ ≤ A * 1 + 1 / 2 := by rw [abs_mul, abs_of_nonneg hA]; gcongr
      _ ≤ _ := by linarith
  have h3 : |((g : ℝ) - γ) * x n| ≤ |(g : ℝ) - γ| * (A + 1) := by rw [abs_mul]; gcongr
  have h4 : |γ * (A * c - x n)| ≤ γ := by
    rw [abs_mul, abs_of_nonneg hγ]; nlinarith
  calc _ = |((⌊g * x n⌋ : ℝ) - g * x n) + ((g : ℝ) - γ) * x n - γ * (A * c - x n)| := by ring_nf
    _ ≤ |((⌊g * x n⌋ : ℝ) - g * x n) + ((g : ℝ) - γ) * x n| + |γ * (A * c - x n)| := abs_sub _ _
    _ ≤ _ := by linarith [abs_add_le ((⌊g * x n⌋ : ℝ) - g * x n) (((g : ℝ) - γ) * x n)]

/-- The response at a frequency: the gain that the counts of that frequency settle on. -/
theorem detect_responds {gain : Nat → Int → ℚ} {M γ hz q : ℝ} (h0 : 0 ≤ hz) (h1 : hz < 24000)
    (hM : ∀ k c, 0 ≤ (gain k c : ℝ) ∧ (gain k c : ℝ) ≤ M) (hγ : 0 ≤ γ ∧ γ ≤ M) (hq : (10 : ℝ) ^ (q / 80) = γ)
    (ht : Tendsto (fun p : ℕ × ℤ => (gain p.1 p.2 : ℝ)) (counts hz) (𝓝 γ)) : Responds (detect gain) hz q := by
  set A0 := 1 / (2 * Real.cos (Real.pi * (hz / 48000))) with hA0
  have pA : 0 < A0 := by
    have : 0 < Real.cos (Real.pi * (hz / 48000)) :=
      Real.cos_pos_of_mem_Ioo ⟨by nlinarith [Real.pi_pos], by nlinarith [Real.pi_pos]⟩
    positivity
  have pM : 0 ≤ M := hγ.1.trans hγ.2
  have near : ∀ k c, |(gain k c : ℝ) - γ| ≤ M := fun k c => by
    have := hM k c
    rw [abs_le]; constructor <;> linarith
  refine ⟨0, 2 + M + M * (A0 + 1), fun A θ hA x hx => ?_⟩
  have pX : 0 ≤ M * (A0 + 1) := by positivity
  rw [hq]
  by_cases hz0 : ∀ j, x j = 0
  · refine ⟨0, fun n _ => ?_⟩
    have := tone_error (g := 0) hA hx hγ.1 n
    have h2 := abs_sub_round (A * Real.cos (2 * Real.pi * hz * n / 48000 + θ))
    rw [← hx n, hz0 n, Int.cast_zero, sub_zero] at h2
    rw [detect_output_silent hz0, add_zero, Int.cast_zero, zero_sub, abs_neg, mul_right_comm, abs_mul,
      abs_of_nonneg hγ.1]
    nlinarith [abs_nonneg (A * Real.cos (2 * Real.pi * hz * n / 48000 + θ))]
  · push Not at hz0
    have hm := Nat.find_spec hz0
    have hl : ∀ j < Nat.find hz0, x j = 0 := fun j hj => by simpa using Nat.find_min hz0 hj
    set m := Nat.find hz0
    rcases lt_or_ge A0 A with hAA | hAA
    · obtain ⟨s, w, w1, w2, hw⟩ := tone_turns h0 h1 hAA hx
      have ev := Metric.tendsto_nhds.mp ht (1 / (A + 1)) (by positivity)
      rw [counts, eventually_inf_principal, eventually_comap, eventually_atTop] at ev
      obtain ⟨K, hK⟩ := ev
      refine ⟨m + K, fun n hn => ?_⟩
      obtain ⟨k, rfl⟩ : ∃ k, n = m + k := ⟨n - m, by omega⟩
      have hd := hK k (by omega) (k, crossings x m k) rfl ?_
      · rw [Real.dist_eq, lt_div_iff₀ (by positivity)] at hd
        rw [detect_output hl hm, add_zero]
        have := tone_error hA hx (gain k (crossings x m k)) hγ.1 (m + k)
        linarith
      · rw [Set.mem_ofPred_eq, crossings_of_turns (by positivity) w1 w2 hw]
        push_cast
        have e1 := Int.floor_add_fract (s + hz / 48000 * ((m : ℝ) + k))
        have e2 := Int.floor_add_fract (s + hz / 48000 * m)
        have := Int.fract_nonneg (s + hz / 48000 * ((m : ℝ) + k))
        have := Int.fract_lt_one (s + hz / 48000 * ((m : ℝ) + k))
        have := Int.fract_nonneg (s + hz / 48000 * m)
        have := Int.fract_lt_one (s + hz / 48000 * m)
        rw [abs_le]
        constructor <;> linarith
    · refine ⟨m, fun n hn => ?_⟩
      obtain ⟨k, rfl⟩ : ∃ k, n = m + k := ⟨n - m, by omega⟩
      rw [detect_output hl hm, add_zero]
      have := tone_error hA hx (gain k (crossings x m k)) hγ.1 (m + k)
      have : |(gain k (crossings x m k) : ℝ) - γ| * (A + 1) ≤ M * (A0 + 1) :=
        mul_le_mul (near _ _) (by linarith) (by linarith) pM
      linarith

/-- The frequency that the counts tell. -/
def tells (k : Nat) (c : Int) : ℚ := 48000 * |(c : ℚ)| / k

theorem tells_tendsto {hz : ℝ} (h0 : 0 ≤ hz) :
    Tendsto (fun p : ℕ × ℤ => (tells p.1 p.2 : ℝ)) (counts hz) (𝓝 hz) := by
  have h1 : Tendsto (fun p : ℕ × ℤ => (48000 : ℝ) / p.1) (counts hz) (𝓝 0) :=
    ((tendsto_const_div_atTop_nhds_zero_nat 48000).comp tendsto_comap).mono_left inf_le_left
  rw [tendsto_iff_norm_sub_tendsto_zero]
  refine squeeze_zero' (.of_forall fun _ => norm_nonneg _) ?_ h1
  have hp : ∀ᶠ p : ℕ × ℤ in counts hz, 0 < p.1 := by
    refine Eventually.filter_mono inf_le_left ?_
    exact tendsto_comap.eventually (eventually_gt_atTop 0)
  filter_upwards [hp, mem_inf_of_right (mem_principal_self _)] with p p0 pc
  have p0' : (0 : ℝ) < p.1 := by exact_mod_cast p0

  have hn : |(|(p.2 : ℝ)|) - hz / 48000 * p.1| ≤ 1 := by
    rw [show hz / 48000 * p.1 = |hz / 48000 * p.1| from (abs_of_nonneg (by positivity)).symm]
    exact (abs_abs_sub_abs_le _ _).trans pc
  rw [tells, Real.norm_eq_abs]
  push_cast
  rw [show 48000 * |(p.2 : ℝ)| / p.1 - hz = (|(p.2 : ℝ)| - hz / 48000 * p.1) * (48000 / p.1) by field_simp, abs_mul,
    abs_of_pos (show (0 : ℝ) < 48000 / p.1 by positivity)]
  exact mul_le_of_le_one_left (by positivity) hn


/-! ## The levels of a band -/

theorem ramp_nonneg {e y : ℝ} (e1 : e < 1) : 0 ≤ ramp e y := div_nonneg (le_max_left _ _) (by linarith)

theorem ramp_mono {e y y' : ℝ} (e1 : e < 1) (h : y ≤ y') : ramp e y ≤ ramp e y' :=
  div_le_div_of_nonneg_right (max_le_max_left 0 (by linarith)) (by linarith)

theorem ramp_low {e y : ℝ} (h : y ≤ e) : ramp e y = 0 := by simp [ramp, h]

theorem ramp_one {e : ℝ} (e1 : e < 1) : ramp e 1 = 1 := by
  rw [ramp, max_eq_right (by linarith), div_self (by linarith)]

theorem ramp_le_one {e y : ℝ} (e1 : e < 1) (h : y ≤ 1) : ramp e y ≤ 1 := ramp_one e1 ▸ ramp_mono e1 h

/-- A gain in qdB. -/
noncomputable def qdb (y : ℝ) : ℝ := 80 * Real.logb 10 y

theorem qdb_rpow (h : Int) : qdb ((10 : ℝ) ^ ((h : ℝ) / 160)) = h / 2 := by
  rw [qdb, Real.logb_rpow (by norm_num) (by norm_num)]
  ring

theorem rpow_qdb {y : ℝ} (h : 0 < y) : (10 : ℝ) ^ (qdb y / 80) = y := by
  rw [qdb, mul_div_cancel_left₀ _ (by norm_num), Real.rpow_logb (by norm_num) (by norm_num) h]

theorem qdb_one : qdb 1 = 0 := by simp [qdb]

theorem qdb_le {y y' : ℝ} (h : 0 < y) (h' : y ≤ y') : qdb y ≤ qdb y' :=
  mul_le_mul_of_nonneg_left (Real.logb_le_logb_of_le (by norm_num) h h') (by norm_num)

theorem qdb_lt {y y' : ℝ} (h : 0 < y) (h' : y < y') : qdb y < qdb y' :=
  mul_lt_mul_of_pos_left (Real.logb_lt_logb (by norm_num) h h') (by norm_num)

/-- A gain near 1 is within half a qdB of 0. -/
theorem qdb_near {y : ℝ} (h : |y - 1| ≤ 1 / 400) : |qdb y| ≤ 1 / 2 := by
  rw [abs_le] at h
  have y0 : 0 < y := by linarith
  have key : ∀ z : ℝ, 0 < z → z ^ 160 ≤ 10 → qdb z ≤ 1 / 2 := by
    intro z hz hp
    have := Real.logb_le_logb_of_le (b := 10) (by norm_num) (by positivity) hp
    rw [Real.logb_pow, Real.logb_self_eq_one (by norm_num)] at this
    rw [qdb]
    push_cast at this
    linarith
  rw [abs_le]
  constructor
  · have := key y⁻¹ (by positivity) ?_
    · rw [qdb, Real.logb_inv] at this
      rw [qdb]
      linarith
    · rw [inv_pow]
      refine inv_le_of_inv_le₀ (by norm_num) ?_
      calc (10 : ℝ)⁻¹ ≤ (399 / 400) ^ 160 := by norm_num
        _ ≤ _ := by gcongr; linarith
  · refine key y y0 ?_
    calc y ^ 160 ≤ (401 / 400) ^ 160 := by gcongr; linarith
      _ ≤ _ := by norm_num

/-- A PEAK's gain away from 1, over the half of its gain. -/
def rise (e S y : K) : K := (min y e / e) ^ 3 + S * ramp e y

theorem peakGain_eq (e S y : ℝ) : peakGain e S (S ^ 2) y = 1 + (S - 1) * rise e S y := by
  rw [peakGain, rise]; ring

theorem rise_mono {e S y y' : ℝ} (e0 : 0 < e) (e1 : e < 1) (hS : 0 < S) (h0 : 0 ≤ y) (h : y ≤ y') :
    rise e S y ≤ rise e S y' := by
  have := ramp_mono e1 h
  have : 0 ≤ min y e := le_min h0 e0.le
  unfold rise
  gcongr

theorem rise_nonneg {e S y : ℝ} (e0 : 0 < e) (e1 : e < 1) (hS : 0 < S) (h0 : 0 ≤ y) : 0 ≤ rise e S y := by
  have := ramp_nonneg (y := y) e1
  have : 0 ≤ min y e := le_min h0 e0.le
  unfold rise
  positivity

theorem rise_one {e S : ℝ} (e0 : 0 < e) (e1 : e < 1) : rise e S 1 = 1 + S := by
  rw [rise, ramp_one e1, min_eq_right e1.le, div_self e0.ne']; ring

theorem rise_end {e S : ℝ} (e0 : 0 < e) : rise e S e = 1 := by
  rw [rise, ramp_low le_rfl, min_self, div_self e0.ne']; ring

/-- The gain of a PEAK lies between 1 and that at the centre, and goes from 1 as `y` grows. -/
theorem peakGain_range {e S y y' : ℝ} (e0 : 0 < e) (e1 : e < 1) (hS : 0 < S) (h0 : 0 ≤ y) (h : y ≤ y') (h1 : y' ≤ 1) :
    (1 ≤ S → 1 ≤ peakGain e S (S ^ 2) y ∧ peakGain e S (S ^ 2) y ≤ peakGain e S (S ^ 2) y'
      ∧ peakGain e S (S ^ 2) y' ≤ S ^ 2)
    ∧ (S ≤ 1 → S ^ 2 ≤ peakGain e S (S ^ 2) y' ∧ peakGain e S (S ^ 2) y' ≤ peakGain e S (S ^ 2) y
      ∧ peakGain e S (S ^ 2) y ≤ 1) := by
  simp only [peakGain_eq]
  have a := rise_nonneg e0 e1 hS h0
  have b := rise_mono e0 e1 hS h0 h
  have c := rise_mono e0 e1 hS (h0.trans h) h1
  rw [rise_one e0 e1] at c
  constructor <;> intro hs <;> refine ⟨?_, ?_, ?_⟩ <;> nlinarith

theorem peakGain_pos {e S y : ℝ} (e0 : 0 < e) (e1 : e < 1) (hS : 0 < S) (h0 : 0 ≤ y) (h1 : y ≤ 1) :
    0 < peakGain e S (S ^ 2) y := by
  obtain ⟨a, b⟩ := peakGain_range e0 e1 hS h0 le_rfl h1
  rcases le_total 1 S with h | h
  · linarith [(a h).1]
  · exact lt_of_lt_of_le (by positivity) (b h).1

/-- The level of a PEAK goes from 0 qdB as `y` grows. -/
theorem peak_toward {e S y y' : ℝ} (e0 : 0 < e) (e1 : e < 1) (hS : 0 < S) (h0 : 0 ≤ y) (h : y ≤ y') (h1 : y' ≤ 1) :
    |qdb (peakGain e S (S ^ 2) y)| ≤ |qdb (peakGain e S (S ^ 2) y')| := by
  obtain ⟨a, b⟩ := peakGain_range e0 e1 hS h0 h h1
  have p := peakGain_pos e0 e1 hS h0 (h.trans h1)
  have p' := peakGain_pos e0 e1 hS (h0.trans h) h1
  rcases le_total 1 S with hs | hs
  · obtain ⟨a1, a2, a3⟩ := a hs
    have q1 := qdb_le one_pos a1
    have q2 := qdb_le p a2
    rw [qdb_one] at q1
    rw [abs_of_nonneg q1, abs_of_nonneg (q1.trans q2)]
    exact q2
  · obtain ⟨b1, b2, b3⟩ := b hs
    have q1 := qdb_le p b3
    have q2 := qdb_le p' b2
    rw [qdb_one] at q1
    rw [abs_of_nonpos q1, abs_of_nonpos (q2.trans q1)]
    linarith

theorem peakGain_one {e : ℝ} (e1 : e < 1) (e0 : 0 < e) (S G : ℝ) : peakGain e S G 1 = G := by
  rw [peakGain, ramp_one e1, min_eq_right e1.le, div_self e0.ne']; ring

theorem peakGain_zero {e : ℝ} (e0 : 0 < e) (S G : ℝ) : peakGain e S G 0 = 1 := by
  rw [peakGain, ramp_low e0.le, min_eq_left e0.le, zero_div]; ring

/-- The places of a frequency, below the band's own and above it. -/
theorem places {F f : ℝ} (hF : 0 < F) (F1 : F < 24000) :
    (f ≤ F → lowPlace F f = f / F ∧ highPlace F f = 1)
    ∧ (F ≤ f → lowPlace F f = 1 ∧ highPlace F f = F * (24000 - f) / (f * (24000 - F))) := by
  have : 24000 - F ≠ 0 := by linarith
  constructor <;> intro h
  · rw [lowPlace, highPlace, min_eq_left h, max_eq_right h]
    exact ⟨rfl, by field_simp⟩
  · rw [lowPlace, highPlace, min_eq_right h, max_eq_left h]
    exact ⟨div_self hF.ne', rfl⟩

theorem lowPlace_range {F f : ℝ} (hF : 0 < F) (h0 : 0 ≤ f) : 0 ≤ lowPlace F f ∧ lowPlace F f ≤ 1 :=
  ⟨div_nonneg (le_min h0 hF.le) hF.le, (div_le_one hF).mpr (min_le_right _ _)⟩

theorem highPlace_range {F f : ℝ} (hF : 0 < F) (F1 : F < 24000) (h1 : f < 24000) :
    0 < highPlace F f ∧ highPlace F f ≤ 1 := by
  have hm : 0 < max f F := lt_max_of_lt_right hF
  have hm1 : max f F < 24000 := max_lt h1 F1
  have hd : 0 < max f F * (24000 - F) := mul_pos hm (by linarith)
  have := le_max_right f F
  refine ⟨div_pos (mul_pos hF (by linarith)) hd, (div_le_one hd).mpr ?_⟩
  nlinarith

theorem lowPlace_mono {F f f' : ℝ} (hF : 0 < F) (h : f ≤ f') : lowPlace F f ≤ lowPlace F f' :=
  div_le_div_of_nonneg_right (min_le_min_right _ h) hF.le

theorem highPlace_anti {F f f' : ℝ} (hF : 0 < F) (F1 : F < 24000) (h : f ≤ f') :
    highPlace F f' ≤ highPlace F f := by
  have m := max_le_max_right F h
  have hm : 0 < max f F := lt_max_of_lt_right hF
  have hm' : 0 < max f' F := lt_max_of_lt_right hF
  have hd : 0 < 24000 - F := by linarith
  rw [highPlace, highPlace, div_le_div_iff₀ (by positivity) (by positivity)]
  have : (24000 - max f' F) * max f F ≤ (24000 - max f F) * max f' F := by nlinarith
  nlinarith [mul_le_mul_of_nonneg_left this (mul_pos hF hd).le]

theorem highPlace_lt {F f f' : ℝ} (hF : 0 < F) (F1 : F < 24000) (h0 : F ≤ f) (h : f < f') :
    highPlace F f' < highPlace F f := by
  have hd : 0 < 24000 - F := by linarith
  have f0 : 0 < f := by linarith
  have f1 : 0 < f' := by linarith
  rw [((places hF F1).2 h0).2, ((places hF F1).2 (h0.trans h.le)).2, div_lt_div_iff₀ (by positivity) (by positivity)]
  have : (24000 - f') * f < (24000 - f) * f' := by nlinarith
  nlinarith [mul_lt_mul_of_pos_left this (mul_pos hF hd)]

/-- Four octaves above the high end of the width, the high place is a sixteenth of that end's. -/
theorem highPlace_well {F high f : ℝ} (hF : 0 < F) (F1 : F < 24000) (hh : F ≤ high) (h : WellAbove high f) :
    16 * highPlace F f ≤ highPlace F high := by
  obtain ⟨a, b, c⟩ := h
  have hd : 0 < 24000 - F := by linarith
  have f0 : 0 < f := by linarith
  have f1 : 0 < high := by linarith
  rw [((places hF F1).2 hh).2, ((places hF F1).2 (hh.trans a.le)).2, ← mul_div_assoc,
    div_le_div_iff₀ (by positivity) (by positivity)]
  nlinarith [mul_le_mul_of_nonneg_left c (mul_pos hF hd).le]

/-- The parts of a band that its gains rest on: its own frequency, the ends of its width, and their places. -/
structure Part (F low high e u : ℝ) : Prop where
  pos   : 0 < F
  top   : F < 24000
  e0    : 0 < e
  e1    : e < 1
  u0    : 0 < u
  u1    : u < 1
  lower : low = F * e
  upper : high * e = F
  place : high < 24000 → highPlace F high = u

theorem Part.above {F low high e u : ℝ} (p : Part F low high e u) : F < high := by
  have := p.upper; have := p.e1; have := p.e0; have := p.pos
  by_contra hn
  nlinarith

theorem Part.well {F low high e u f : ℝ} (p : Part F low high e u) (h : WellAbove high f) :
    F ≤ f ∧ 0 < highPlace F f ∧ highPlace F f ≤ u / 16 := by
  have w := highPlace_well p.pos p.top p.above.le h
  rw [p.place (h.1.trans h.2.1)] at w
  exact ⟨(p.above.trans h.1).le, (highPlace_range p.pos p.top h.2.1).1, by linarith⟩

/-- Toward 24,000 Hz a level tends to that of the places 1 and 0. -/
theorem ends_at {F low high e u : ℝ} (p : Part F low high e u) (kind : BandKind) (S G P d : ℝ)
    (h : 0 < bandGain kind e u S G P d 1 0) :
    EndsAt (fun f => qdb (bandGain kind e u S G P d (lowPlace F f) (highPlace F f)))
      (qdb (bandGain kind e u S G P d 1 0)) := by
  have hF := p.pos
  have F1 := p.top
  have hid : Tendsto (fun f : ℝ => f) (𝓝[<] 24000) (𝓝 24000) := tendsto_id.mono_left nhdsWithin_le_nhds
  have hc : ∀ a : ℝ, Tendsto (fun _ : ℝ => a) (𝓝[<] 24000) (𝓝 a) := fun a => tendsto_const_nhds
  have hl : Tendsto (fun f => lowPlace F f) (𝓝[<] 24000) (𝓝 1) := by
    have := (hid.min (hc F)).div (hc F) hF.ne'
    rwa [min_eq_right F1.le, div_self hF.ne'] at this
  have hh : Tendsto (fun f => highPlace F f) (𝓝[<] 24000) (𝓝 0) := by
    have hm := hid.max (hc F)
    have := ((hc F).mul ((hc 24000).sub hm)).div (hm.mul (hc (24000 - F)))
      (mul_ne_zero (lt_max_of_lt_right hF).ne' (by linarith))
    rwa [max_eq_left F1.le, sub_self, mul_zero, zero_div] at this
  have hb := bandGain_tendsto kind (d := d) (hc e) (hc u) (hc S) (hc G) (hc P) hl hh p.e0 p.e1 p.u0 p.u1
  exact ((Real.continuousAt_log h.ne').tendsto.comp hb |>.div_const (Real.log 10)).const_mul 80

/-- The gain of twice as many half-qdB is the square. -/
theorem twice (g : Int) : (10 : ℝ) ^ (((2 * g : Int) : ℝ) / 160) = ((10 : ℝ) ^ ((g : ℝ) / 160)) ^ 2 := by
  rw [← Real.rpow_natCast, ← Real.rpow_mul (by norm_num)]
  congr 1
  push_cast; ring

theorem peak_shape {F low high e u : ℝ} (p : Part F low high e u) (g : Int) (P d : ℝ) :
    PeakShape F low high g fun f =>
      qdb (bandGain .peak e u ((10 : ℝ) ^ ((g : ℝ) / 160)) ((10 : ℝ) ^ (((2 * g : Int) : ℝ) / 160)) P d
        (lowPlace F f) (highPlace F f)) := by
  have hF := p.pos
  have F1 := p.top
  have c1 := qdb_rpow g
  have c2 := qdb_rpow (2 * g)
  rw [twice] at c2 ⊢
  have hS : 0 < (10 : ℝ) ^ ((g : ℝ) / 160) := by positivity
  have hS1 : g ≤ 48 → (10 : ℝ) ^ ((g : ℝ) / 160) ≤ 10 := fun h => by
    conv_rhs => rw [← Real.rpow_one 10]
    apply Real.rpow_le_rpow_of_exponent_le (by norm_num)
    have : (g : ℝ) ≤ 48 := by exact_mod_cast h
    linarith
  set S := (10 : ℝ) ^ ((g : ℝ) / 160)
  have below : ∀ f, f ≤ F → bandGain .peak e u S (S ^ 2) P d (lowPlace F f) (highPlace F f) =
      peakGain e S (S ^ 2) (f / F) := by
    intro f hf
    obtain ⟨a, b⟩ := (places hF F1).1 hf
    rw [bandGain, a, b, peakGain_one p.u1 p.u0, add_sub_cancel_right]
  have above : ∀ f, F ≤ f → bandGain .peak e u S (S ^ 2) P d (lowPlace F f) (highPlace F f) =
      peakGain u S (S ^ 2) (highPlace F f) := by
    intro f hf
    rw [bandGain, ((places hF F1).2 hf).1, peakGain_one p.e1 p.e0, add_sub_cancel_left]
  have half : ∀ e, 0 < e → qdb (peakGain e S (S ^ 2) e) = g / 2 := by
    intro e e0
    rw [peakGain_eq, rise_end e0, ← c1]
    congr 1
    ring
  have away : g ≤ 48 → ∀ e y, 0 < e → e < 1 → 0 ≤ y → y ≤ e / 16 → |qdb (peakGain e S (S ^ 2) y)| ≤ 1 / 2 := by
    intro g1 e y e0 e1 y0 y1
    apply qdb_near
    have t0 : 0 ≤ y / e := by positivity
    have t1 : y / e ≤ 1 / 16 := by rw [div_le_iff₀ e0]; linarith
    have t2 : (y / e) ^ 3 ≤ (1 / 16) ^ 3 := by gcongr
    have t3 : 0 ≤ (y / e) ^ 3 := by positivity
    rw [peakGain_eq, rise, ramp_low (by linarith), min_eq_left (by linarith), abs_le]
    have := hS1 g1
    constructor <;> nlinarith
  have fin : bandGain .peak e u S (S ^ 2) P d 1 0 = 1 := by
    rw [bandGain, peakGain_one p.e1 p.e0, peakGain_zero p.u0, add_sub_cancel_left]
  unfold PeakShape
  beta_reduce
  refine ⟨?_, ?_, fun h => ?_, fun near far h0 h1 h2 => ?_, fun near far h0 h1 h2 => ?_, ?_, ?_, fun _ g1 f hf => ?_⟩
  · rw [below F le_rfl, div_self hF.ne', peakGain_one p.e1 p.e0, c2]
    push_cast; ring
  · rw [below low (by nlinarith [p.lower, p.e1]), p.lower, mul_div_cancel_left₀ _ hF.ne', half e p.e0]
  · rw [above high p.above.le, p.place h, half u p.u0]
  · rw [below far (h1.trans h2), below near h2]
    exact peak_toward p.e0 p.e1 hS (by positivity) (by gcongr) ((div_le_one hF).mpr h2)
  · rw [above far (h0.trans h1), above near h0]
    have := highPlace_range hF F1 h2
    have := highPlace_range hF F1 (h1.trans_lt h2)
    exact peak_toward p.u0 p.u1 hS (by linarith) (highPlace_anti hF F1 h1) (by linarith)
  · rw [below 0 hF.le, zero_div, peakGain_zero p.e0, qdb_one]
  · have := ends_at p .peak S (S ^ 2) P d (by rw [fin]; exact one_pos)
    rwa [fin, qdb_one] at this
  · rcases hf with ⟨f0, f1⟩ | hf
    · have := p.lower; have := p.e1
      rw [below f (by nlinarith)]
      refine away g1 e _ p.e0 p.e1 (by positivity) ?_
      rw [div_le_iff₀ hF]
      linarith
    · obtain ⟨a, b, c⟩ := p.well hf
      rw [above f a]
      exact away g1 u _ p.u0 p.u1 b.le c

theorem shelf_shape {F low high e u A S B : ℝ} (p : Part F low high e u) {kind : BandKind} {G P d : ℝ}
    (hk : ∀ lo hi, bandGain kind e u S G P d lo hi = shelfGain e u A S B lo hi) (A0 : 0 < A) (S0 : 0 < S) (B0 : 0 < B)
    {below above : Int} (hA : qdb A = below) (hS : qdb S = (below + above) / 2) (hB : qdb B = above) :
    ShelfShape F low high below above fun f =>
      qdb (bandGain kind e u S G P d (lowPlace F f) (highPlace F f)) := by
  have hF := p.pos
  have F1 := p.top
  have e1 := p.e1
  have u1 := p.u1
  have lowGain : ∀ f, f ≤ F * e → shelfGain e u A S B (lowPlace F f) (highPlace F f) = A := by
    intro f hf
    obtain ⟨a, b⟩ := (places hF F1).1 (show f ≤ F by nlinarith)
    rw [shelfGain, a, b, ramp_one u1, ramp_low (by rw [div_le_iff₀ hF]; linarith)]
    ring
  have highGain : ∀ f, F ≤ f → highPlace F f ≤ u → shelfGain e u A S B (lowPlace F f) (highPlace F f) = B := by
    intro f hf hu
    rw [shelfGain, ((places hF F1).2 hf).1, ramp_one e1, ramp_low hu]
    ring
  have fin : bandGain kind e u S G P d 1 0 = B := by
    rw [hk, shelfGain, ramp_one e1, ramp_low p.u0.le]; ring
  have half : (0 : ℝ) < 24000 - F := by linarith
  have change : below ≠ above → (above - below : ℝ) ^ 2 / 2 < (above - below) * (above - below) := fun hne => by
    have : (0 : ℝ) < ((above : ℝ) - below) ^ 2 := sq_pos_of_ne_zero (sub_ne_zero.mpr (by exact_mod_cast hne.symm))
    linarith
  have ends := ends_at p kind S G P d (by rw [fin]; exact B0)
  rw [fin, hB] at ends
  simp only [hk] at ends ⊢
  unfold ShelfShape
  beta_reduce
  refine ⟨?_, ?_, ends, fun f f' h0 h h1 => ?_, fun _ _ f => ⟨fun hf => ?_, fun hf => ?_⟩,
    fun hh hne => ?_, fun _ hne => ?_⟩
  · obtain ⟨a, b⟩ := (places hF F1).1 (le_refl F)
    rw [shelfGain, a, b, div_self hF.ne', ramp_one e1, ramp_one u1, ← hS]
    congr 1
    ring
  · rw [lowGain 0 (mul_nonneg hF.le p.e0.le), hA]
  · obtain ⟨l0, l1⟩ := lowPlace_range hF (h0.trans h)
    obtain ⟨k0, k1⟩ := highPlace_range hF F1 (h.trans_lt h1)
    obtain ⟨_, l1'⟩ := lowPlace_range hF h0
    obtain ⟨_, k1'⟩ := highPlace_range hF F1 h1
    have r := ramp_mono e1 (lowPlace_mono hF h)
    have q := ramp_mono u1 (highPlace_anti hF F1 h)
    have r0 := ramp_nonneg (y := lowPlace F f) e1
    have r1 := ramp_le_one e1 l1
    have q1 := ramp_le_one u1 k1
    have q0 := ramp_nonneg (y := highPlace F f') u1
    unfold shelfGain
    rcases le_total below above with hle | hle
    · have hle' : (below : ℝ) ≤ above := by exact_mod_cast hle
      have AS : A ≤ S := by
        by_contra hn
        have := qdb_lt S0 (not_le.mp hn)
        linarith
      have SB : S ≤ B := by
        by_contra hn
        have := qdb_lt B0 (not_le.mp hn)
        linarith
      refine mul_le_mul_of_nonneg_left (qdb_le ?_ ?_) (by linarith)
      · nlinarith
      · nlinarith
    · have hle' : (above : ℝ) ≤ below := by exact_mod_cast hle
      have AS : S ≤ A := by
        by_contra hn
        have := qdb_lt A0 (not_le.mp hn)
        linarith
      have SB : B ≤ S := by
        by_contra hn
        have := qdb_lt S0 (not_le.mp hn)
        linarith
      refine mul_le_mul_of_nonpos_left (qdb_le ?_ ?_) (by linarith)
      · nlinarith
      · nlinarith
  · rw [lowGain f (by linarith [hf.1, hf.2, p.lower]), hA, sub_self, abs_zero]
    norm_num
  · obtain ⟨a, b, c⟩ := p.well hf
    rw [highGain f a (by linarith [p.u0]), hB, sub_self, abs_zero]
    norm_num
  · rw [lowGain low p.lower.le, highGain high p.above.le (p.place hh).le, hA, hB]
    exact change hne
  · rw [lowGain low p.lower.le, hA]
    exact change hne

theorem corner_lt {d y y' : ℝ} (d0 : 0 ≤ d) (d1 : d ≤ 1) (h0 : 0 ≤ y) (h : y < y') : corner d y < corner d y' := by
  have : y ^ 2 < y' ^ 2 := by gcongr
  have p : 0 < y' := h0.trans_lt h
  rcases d0.eq_or_lt with rfl | hd
  · simp only [corner, zero_mul, add_zero]
    nlinarith [mul_nonneg h0 h0]
  · have : y + d * (1 - y) ≤ y' + d * (1 - y') := by nlinarith
    have : 0 < y + d * (1 - y) := by nlinarith
    unfold corner
    nlinarith

theorem corner_one (d : ℝ) : corner d 1 = 1 := by simp [corner]

theorem corner_nonneg {d y : ℝ} (d0 : 0 ≤ d) (h0 : 0 ≤ y) (h1 : y ≤ 1) : 0 ≤ corner d y := by
  have : 0 ≤ 1 - y := by linarith
  unfold corner
  positivity

theorem corner_pos {d y : ℝ} (d0 : 0 ≤ d) (h0 : 0 < y) (h1 : y ≤ 1) : 0 < corner d y := by
  have : 0 ≤ 1 - y := by linarith
  unfold corner
  positivity

theorem corner_le {d y : ℝ} (d1 : d ≤ 1) (h1 : y ≤ 1) : corner d y ≤ y ^ 2 := by
  have : y + d * (1 - y) ≤ 1 := by nlinarith
  unfold corner
  nlinarith [sq_nonneg y]

theorem corner_narrow {d d' y : ℝ} (h : d < d') (h0 : 0 < y) (h1 : y < 1) : corner d y < corner d' y := by
  have : d * (1 - y) < d' * (1 - y) := mul_lt_mul_of_pos_right h (by linarith)
  unfold corner
  gcongr

/-- The gain of a HIGH-PASS below its frequency and above it. -/
theorem passGain_places {F f : ℝ} (hF : 0 < F) (F1 : F < 24000) (P d : ℝ) :
    (f ≤ F → passGain P d (lowPlace F f) (highPlace F f) = P * corner d (f / F))
    ∧ (F ≤ f → passGain P d (lowPlace F f) (highPlace F f) = 1 - (1 - P) * corner d (highPlace F f)) := by
  constructor <;> intro h
  · obtain ⟨p, q⟩ := (places hF F1).1 h
    rw [passGain, p, q, corner_one]; ring
  · rw [passGain, ((places hF F1).2 h).1, corner_one]; ring

theorem pass_shape {F low high e u P d : ℝ} (p : Part F low high e u) (S G : ℝ) (P0 : 0 < P) (hP : qdb P = -12)
    (d0 : 0 ≤ d) (d1 : d ≤ 1) :
    HighPassShape F high fun f => qdb (bandGain .highPass e u S G P d (lowPlace F f) (highPlace F f)) := by
  have hF := p.pos
  have F1 := p.top
  have P1 : P ≤ 1 := by
    by_contra hn
    have := qdb_le one_pos (not_le.mp hn).le
    rw [qdb_one, hP] at this
    linarith
  have fall : ∀ f, 0 < f → f ≤ F → 0 < corner d (f / F) := fun f h0 h1 =>
    corner_pos d0 (by positivity) ((div_le_one hF).mpr h1)
  have fin : bandGain .highPass e u S G P d 1 0 = 1 := by
    rw [bandGain, passGain, corner_one]; simp [corner]
  have ends := ends_at p .highPass S G P d (by rw [fin]; exact one_pos)
  rw [fin, qdb_one] at ends
  unfold HighPassShape
  refine ⟨?_, ?_, fun q => ⟨F * min 1 (10 ^ (q / 80)), by positivity, fun f f0 f1 => ?_⟩,
    fun near far h0 h1 h2 => ?_, ends, fun f hf => ?_⟩ <;> simp only [bandGain]
  · rw [(passGain_places hF F1 P d).1 le_rfl, div_self hF.ne', corner_one, mul_one, hP]
  · intro f hf f' hf' h
    obtain ⟨h0, h1⟩ := hf
    obtain ⟨h0', h1'⟩ := hf'
    simp only [(passGain_places hF F1 P d).1 h1, (passGain_places hF F1 P d).1 h1']
    have := fall f h0 h1
    refine qdb_lt (by positivity) (mul_lt_mul_of_pos_left ?_ P0)
    exact corner_lt d0 d1 (by positivity) (by gcongr)
  · have f2 : f / F < min 1 ((10 : ℝ) ^ (q / 80)) := by rw [div_lt_iff₀ hF]; linarith
    obtain ⟨f3, f4⟩ := lt_min_iff.mp f2
    have f5 : f ≤ F := ((div_lt_one hF).mp f3).le
    rw [(passGain_places hF F1 P d).1 f5]
    have y0 : 0 < f / F := by positivity
    have := fall f f0 f5
    have h : P * corner d (f / F) ≤ 10 ^ (q / 80) := by
      have := corner_le d1 f3.le
      nlinarith
    refine (qdb_le (by positivity) h).trans_eq ?_
    rw [qdb, Real.logb_rpow (by norm_num) (by norm_num)]
    ring
  · rw [(passGain_places hF F1 P d).2 (h0.trans h1), (passGain_places hF F1 P d).2 h0]
    obtain ⟨a0, a1⟩ := highPlace_range hF F1 h2
    obtain ⟨b0, b1⟩ := highPlace_range hF F1 (h1.trans_lt h2)
    have c0 := corner_nonneg d0 a0.le a1
    have c1 := corner_le d1 b1
    have c2 : corner d (highPlace F far) ≤ corner d (highPlace F near) := by
      rcases (highPlace_anti hF F1 h1).eq_or_lt with h | h
      · rw [h]
      · exact (corner_lt d0 d1 a0.le h).le
    have c3 : corner d (highPlace F near) ≤ 1 := c1.trans (pow_le_one₀ b0.le b1)
    have q1 := qdb_le (y := 1 - (1 - P) * corner d (highPlace F near))
      (y' := 1 - (1 - P) * corner d (highPlace F far)) (by nlinarith) (by nlinarith)
    have q2 := qdb_le (y := 1 - (1 - P) * corner d (highPlace F far)) (y' := 1) (by nlinarith) (by nlinarith)
    rw [qdb_one] at q2
    rw [abs_of_nonpos q2, abs_of_nonpos (q1.trans q2)]
    linarith
  · obtain ⟨a, y0, y1⟩ := p.well hf
    rw [(passGain_places hF F1 P d).2 a]
    apply qdb_near
    have y2 : highPlace F f ≤ 1 / 16 := by linarith [p.u1]
    have a := corner_le d1 (show highPlace F f ≤ 1 by linarith)
    have b := corner_nonneg d0 y0.le (by linarith)
    have P2 : 2 / 3 ≤ P := by
      by_contra hn
      have := qdb_lt P0 (not_le.mp hn)
      have k : qdb (2 / 3) ≤ -12 := by
        have := Real.logb_le_logb_of_le (b := 10) (by norm_num) (by norm_num)
          (show (10 : ℝ) ^ 3 ≤ (3 / 2) ^ 20 by norm_num)
        rw [Real.logb_pow, Real.logb_pow, Real.logb_self_eq_one (by norm_num)] at this
        rw [qdb, show (2 / 3 : ℝ) = (3 / 2)⁻¹ by norm_num, Real.logb_inv]
        push_cast at this
        linarith
      linarith
    rw [abs_le]
    constructor <;> nlinarith

/-! ## The bank -/

/-- Whether the samples can carry the frequency half of the width `w` above `F`. -/
def carries (F : ℚ) (w : Nat) : Bool := F ^ 20 * 2 ^ w < 24000 ^ 20

/-- The gain for the counts `k` and `c`, of a band with frequency `F`. -/
def bankGain (kind : BandKind) (F : ℚ) (w : Nat) (g : Int) (k : Nat) (c : Int) : ℚ :=
  max 0 (min (10 ^ g.natAbs) (bandGain kind (half w k) (highEnd (carries F w) F (half w k)) (tenth g k)
    (tenth (2 * g) k) (tenth (-24) k) (w / 40) (lowPlace F (tells k c)) (highPlace F (tells k c))))

/-- The gain at a frequency. -/
noncomputable def gainAt (kind : BandKind) (F : ℚ) (w : Nat) (g : Int) (f : ℝ) : ℝ :=
  bandGain kind ((2 : ℝ) ^ (-((w : ℝ) / 20))) (highEnd (carries F w) (F : ℝ) ((2 : ℝ) ^ (-((w : ℝ) / 20))))
    ((10 : ℝ) ^ ((g : ℝ) / 160)) ((10 : ℝ) ^ (((2 * g : Int) : ℝ) / 160)) ((10 : ℝ) ^ (((-24 : Int) : ℝ) / 160))
    ((w : ℝ) / 40) (lowPlace F f) (highPlace F f)

theorem carries_iff {F : ℚ} (hF : 0 < F) (w : Nat) : carries F w = true ↔ (F : ℝ) * 2 ^ ((w : ℝ) / 20) < 24000 := by
  have hF' : (0 : ℝ) < F := by exact_mod_cast hF
  have e : ((2 : ℝ) ^ ((w : ℝ) / 20)) ^ 20 = 2 ^ w := by
    rw [← Real.rpow_natCast, ← Real.rpow_mul (by norm_num), ← Real.rpow_natCast]; congr 1; push_cast; ring
  rw [carries, decide_eq_true_eq, ← pow_lt_pow_iff_left₀ (a := (F : ℝ) * 2 ^ ((w : ℝ) / 20)) (by positivity)
    (by norm_num) (show 20 ≠ 0 by norm_num), mul_pow, e]
  exact_mod_cast Iff.rfl

/-- The parts of a band of frequency `F` and width `w`. -/
theorem part {F : ℚ} (hF : 0 < F) (F1 : (F : ℝ) < 24000) {w : Nat} (w1 : 1 ≤ w) :
    Part F (F * 2 ^ (-((w : ℝ) / 20))) (F * 2 ^ ((w : ℝ) / 20)) (2 ^ (-((w : ℝ) / 20)))
      (highEnd (carries F w) (F : ℝ) (2 ^ (-((w : ℝ) / 20)))) := by
  have hF' : (0 : ℝ) < F := by exact_mod_cast hF
  have hd : (0 : ℝ) < 24000 - F := by linarith
  have w1' : (1 : ℝ) ≤ w := by exact_mod_cast w1
  have e0 : 0 < (2 : ℝ) ^ (-((w : ℝ) / 20)) := by positivity
  have e1 : (2 : ℝ) ^ (-((w : ℝ) / 20)) < 1 := Real.rpow_lt_one_of_one_lt_of_neg (by norm_num) (by linarith)
  have h0 : 0 < (2 : ℝ) ^ ((w : ℝ) / 20) := by positivity
  have he : (2 : ℝ) ^ ((w : ℝ) / 20) * 2 ^ (-((w : ℝ) / 20)) = 1 := by
    rw [← Real.rpow_add (by norm_num), add_neg_cancel, Real.rpow_zero]
  have hc := carries_iff hF w
  set e := (2 : ℝ) ^ (-((w : ℝ) / 20))
  set r := (2 : ℝ) ^ ((w : ℝ) / 20)
  have up : (F : ℝ) * r < 24000 → (F : ℝ) < 24000 * e := fun h => by
    calc (F : ℝ) = F * r * e := by rw [mul_assoc, he, mul_one]
      _ < 24000 * e := mul_lt_mul_of_pos_right h e0
  have u : 0 < highEnd (carries F w) (F : ℝ) e ∧ highEnd (carries F w) (F : ℝ) e < 1 := by
    unfold highEnd
    split
    · next h =>
      have := up (hc.mp h)
      exact ⟨div_pos (by linarith) hd, (div_lt_one hd).mpr (by linarith)⟩
    · norm_num
  refine ⟨hF', F1, e0, e1, u.1, u.2, rfl, by rw [mul_assoc, he, mul_one], fun h => ?_⟩
  rw [highEnd, if_pos (hc.mpr h)]
  have fr : (F : ℝ) ≤ F * r := by
    have : 1 ≤ r := by nlinarith
    nlinarith
  have re : r = 1 / e := by field_simp; exact he
  rw [((places hF' F1).2 fr).2, re]
  field_simp

/-- Every gain is positive and at most 10^|g|. -/
theorem gainAt_range {kind : BandKind} {F : ℚ} {f : ℝ} (hF : 0 < F) (F1 : (F : ℝ) < 24000) {w : Nat} (w1 : 1 ≤ w)
    (w2 : w ≤ 40) (g : Int) (h0 : 0 ≤ f) (h1 : f < 24000) (hp : kind = .highPass → 0 < f) :
    0 < gainAt kind F w g f ∧ gainAt kind F w g f ≤ 10 ^ g.natAbs := by
  have p := part hF F1 w1
  have hF' := p.pos
  have e0 := p.e0
  have e1 := p.e1
  have u0 := p.u0
  have u1 := p.u1
  have lt1 : (10 : ℝ) ^ (((-24 : Int) : ℝ) / 160) ≤ 1 :=
    (Real.rpow_le_rpow_of_exponent_le (by norm_num) (by norm_num)).trans_eq (Real.rpow_zero 10)
  have P0 : (0 : ℝ) < (10 : ℝ) ^ (((-24 : Int) : ℝ) / 160) := by positivity
  have S0 : 0 < (10 : ℝ) ^ ((g : ℝ) / 160) := by positivity
  have M1 : (1 : ℝ) ≤ 10 ^ g.natAbs := one_le_pow₀ (by norm_num)
  have gM : (g : ℝ) ≤ (g.natAbs : ℝ) := by
    rw [Nat.cast_natAbs, Int.cast_abs]
    exact le_abs_self _
  have M0 : (0 : ℝ) ≤ g.natAbs := by positivity
  have SM : (10 : ℝ) ^ ((g : ℝ) / 160) ≤ 10 ^ g.natAbs := by
    rw [← Real.rpow_natCast]
    exact Real.rpow_le_rpow_of_exponent_le (by norm_num) (by linarith)
  have GM : ((10 : ℝ) ^ ((g : ℝ) / 160)) ^ 2 ≤ 10 ^ g.natAbs := by
    rw [← twice, ← Real.rpow_natCast]
    exact Real.rpow_le_rpow_of_exponent_le (by norm_num) (by push_cast; linarith)
  unfold gainAt
  rw [twice]
  set e := (2 : ℝ) ^ (-((w : ℝ) / 20))
  set u := highEnd (carries F w) (F : ℝ) e
  set S := (10 : ℝ) ^ ((g : ℝ) / 160)
  set P := (10 : ℝ) ^ (((-24 : Int) : ℝ) / 160)
  set M := (10 : ℝ) ^ g.natAbs
  obtain ⟨k0, k1⟩ := highPlace_range hF' F1 h1
  have mid : ∀ a b r : ℝ, 0 < a → 0 < b → a ≤ M → b ≤ M → 0 ≤ r → r ≤ 1 →
      0 < a + (b - a) * r ∧ a + (b - a) * r ≤ M := by
    intro a b r ha hb hM hM' h0 h1
    rw [show a + (b - a) * r = a * (1 - r) + b * r by ring]
    constructor
    · rcases h1.lt_or_eq with h | rfl
      · have : 0 < a * (1 - r) := mul_pos ha (by linarith)
        have : 0 ≤ b * r := by positivity
        linarith
      · linarith
    · nlinarith
  have shelf : ∀ A B, 0 < A → 0 < B → A ≤ M → B ≤ M → 0 < shelfGain e u A S B (lowPlace F f) (highPlace F f)
      ∧ shelfGain e u A S B (lowPlace F f) (highPlace F f) ≤ M := by
    intro A B hA hB hAM hBM
    rcases le_total f F with h | h
    · obtain ⟨a, b⟩ := (places hF' F1).1 h
      rw [shelfGain, a, b, ramp_one u1, sub_self, mul_zero, add_zero]
      exact mid A S _ hA S0 hAM SM (ramp_nonneg e1) (ramp_le_one e1 ((div_le_one hF').mpr h))
    · have := ramp_le_one u1 k1
      have := ramp_nonneg (y := highPlace F f) u1
      rw [shelfGain, ((places hF' F1).2 h).1, ramp_one e1, mul_one, add_sub_cancel]
      exact mid S B _ S0 hB SM hBM (by linarith) (by linarith)
  have peak : ∀ e y, 0 < e → e < 1 → 0 ≤ y → y ≤ 1 → 0 < peakGain e S (S ^ 2) y ∧ peakGain e S (S ^ 2) y ≤ M := by
    intro e y e0 e1 y0 y1
    refine ⟨peakGain_pos e0 e1 S0 y0 y1, ?_⟩
    obtain ⟨a, b⟩ := peakGain_range e0 e1 S0 y0 le_rfl y1
    rcases le_total 1 S with h | h
    · exact (a h).2.2.trans GM
    · exact (b h).2.2.trans M1
  cases kind
  · rcases le_total f F with h | h
    · obtain ⟨a, b⟩ := (places hF' F1).1 h
      rw [bandGain, a, b, peakGain_one u1 u0, add_sub_cancel_right]
      exact peak e _ e0 e1 (by positivity) ((div_le_one hF').mpr h)
    · rw [bandGain, ((places hF' F1).2 h).1, peakGain_one e1 e0, add_sub_cancel_left]
      exact peak u _ u0 u1 k0.le k1
  · exact shelf _ _ (by positivity) one_pos GM M1
  · exact shelf _ _ one_pos (by positivity) M1 GM
  · have d0 : (0 : ℝ) ≤ w / 40 := by positivity
    have d1 : (w / 40 : ℝ) ≤ 1 := by
      have : (w : ℝ) ≤ 40 := by exact_mod_cast w2
      linarith
    have f0 := hp rfl
    rw [bandGain]
    rcases le_total f F with h | h
    · rw [(passGain_places hF' F1 P _).1 h]
      have y1 := (div_le_one hF').mpr h
      have := corner_pos d0 (show 0 < f / F by positivity) y1
      have : corner (w / 40 : ℝ) (f / F) ≤ 1 := (corner_le d1 y1).trans (pow_le_one₀ (by positivity) y1)
      exact ⟨by positivity, by nlinarith⟩
    · rw [(passGain_places hF' F1 P _).2 h]
      have := corner_nonneg d0 k0.le k1
      have : corner (w / 40 : ℝ) (highPlace F f) ≤ 1 := (corner_le d1 k1).trans (pow_le_one₀ k0.le k1)
      constructor <;> nlinarith

/-- The filter has the gain of its formula at every frequency. -/
theorem bank_responds {kind : BandKind} {F : ℚ} {f : ℝ} (hF : 0 < F) (F1 : (F : ℝ) < 24000) {w : Nat} (w1 : 1 ≤ w)
    (w2 : w ≤ 40) (g : Int) (h0 : 0 ≤ f) (h1 : f < 24000) (hp : kind = .highPass → 0 < f) :
    Responds (detect (bankGain kind F w g)) f (qdb (gainAt kind F w g f)) := by
  have p := part hF F1 w1
  obtain ⟨γ0, γM⟩ := gainAt_range (kind := kind) hF F1 w1 w2 g h0 h1 hp
  refine detect_responds (M := 10 ^ g.natAbs) h0 h1 (fun k c => ?_) ⟨γ0.le, γM⟩ (rpow_qdb γ0) ?_
  · unfold bankGain
    push_cast
    exact ⟨le_max_left _ _, max_le (by positivity) (min_le_left _ _)⟩
  · have ht := tells_tendsto h0
    have hk : Tendsto (fun p : ℕ × ℤ => p.1) (counts f) atTop := tendsto_comap.mono_left inf_le_left
    have hm : max f F ≠ 0 := (lt_max_of_lt_right p.pos).ne'
    have hd : (24000 - F : ℝ) ≠ 0 := by linarith
    have hc : ∀ a : ℝ, Tendsto (fun _ : ℕ × ℤ => a) (counts f) (𝓝 a) := fun a => tendsto_const_nhds
    have he := (half_tendsto w).comp hk
    have hu : Tendsto (fun p : ℕ × ℤ => highEnd (carries F w) (F : ℝ) (half w p.1)) (counts f)
        (𝓝 (highEnd (carries F w) (F : ℝ) (2 ^ (-((w : ℝ) / 20))))) := by
      cases carries F w
      · exact hc _
      · exact (((hc 24000).mul he).sub (hc F)).div (hc (24000 - F)) hd
    have hx := ht.max (hc F)
    have hb := bandGain_tendsto kind (d := (w : ℝ) / 40) he hu ((tenth_tendsto g).comp hk)
      ((tenth_tendsto (2 * g)).comp hk) ((tenth_tendsto (-24)).comp hk)
      ((ht.min (hc F)).div (hc F) p.pos.ne')
      (((hc F).mul ((hc 24000).sub hx)).div (hx.mul (hc (24000 - F))) (mul_ne_zero hm hd)) p.e0 p.e1 p.u0 p.u1
    have := (hc 0).max ((hc (10 ^ g.natAbs)).min hb)
    change Tendsto _ _ (𝓝 (max 0 (min ((10 : ℝ) ^ g.natAbs) (gainAt kind F w g f)))) at this
    rw [min_eq_right γM, max_eq_right γ0.le] at this
    refine this.congr fun p => ?_
    simp only [bankGain, Rat.cast_max, Rat.cast_min, bandGain_cast, highEnd_cast, place_cast]
    push_cast
    rfl

/-- A band of gain 0 that is no HIGH-PASS leaves a sample as it is. -/
theorem bankGain_flat {kind : BandKind} (h : kind ≠ .highPass) (F : ℚ) (w : Nat) (m : FilterMemory) (x : Int) :
    (detect (bankGain kind F w 0) m x).2 = x := by
  have t : ∀ k, tenth 0 k = 1 := fun k => root_one _ _
  unfold detect
  split
  · next hx => exact hx.2.symm
  · simp [bankGain, t, bandGain_flat h]

/-- A band of the formulas. -/
def exampleEq (b : EqBand) : SampleFilter := detect (bankGain b.kind b.frequency b.width (b.gain.getD 0))

/-- A notch of the formulas. -/
def exampleNotch (c : NotchCut) : SampleFilter := detect (bankGain .peak (375 * c.bin / 16 : ℚ) c.width (-c.depth))

/-- The response of a PEAK at its centre and half the width away is a bell. -/
theorem bank_bell {F : ℚ} (hF : 0 < F) (F1 : (F : ℝ) < 24000) {w : Nat} (w1 : 1 ≤ w) (w2 : w ≤ 40) (g : Int) :
    Bell (detect (bankGain .peak F w g)) F g w := by
  have p := part hF F1 w1
  have hF' := p.pos
  obtain ⟨s1, s2, s3, _⟩ := peak_shape p g ((10 : ℝ) ^ (((-24 : Int) : ℝ) / 160)) ((w : ℝ) / 40)
  constructor
  · have := bank_responds (kind := .peak) hF F1 w1 w2 g hF'.le F1 (by simp)
    rwa [show qdb (gainAt .peak F w g F) = g from s1] at this
  · rintro side (rfl | rfl) hs
    · have := bank_responds (kind := .peak) hF F1 w1 w2 g (by positivity) hs (by simp)
      rwa [show qdb (gainAt .peak F w g _) = g / 2 from s3 hs] at this
    · have := bank_responds (kind := .peak) hF F1 w1 w2 g (by positivity) hs (by simp)
      rwa [show qdb (gainAt .peak F w g _) = g / 2 from s2] at this

/-- The bands of the formulas have the response of R171. -/
theorem example_response :
    EqResponse exampleEq fun b f => qdb (gainAt b.kind b.frequency b.width (b.gain.getD 0) f) := by
  have pos : ∀ b : EqBand, b.InTable → (0 : ℚ) < b.frequency := fun b h => by
    have : 0 < b.frequency := by have := h.1; omega
    exact_mod_cast this
  have top : ∀ b : EqBand, b.InTable → ((b.frequency : ℚ) : ℝ) < 24000 := fun b h => by
    have : b.frequency < 24000 := by have := h.2.1; omega
    exact_mod_cast this
  have d0 : ∀ b : EqBand, (0 : ℝ) ≤ b.width / 40 := fun b => by positivity
  have d1 : ∀ b : EqBand, b.InTable → (b.width / 40 : ℝ) ≤ 1 := fun b h => by
    have : (b.width : ℝ) ≤ 40 := by exact_mod_cast h.2.2.2.1
    linarith
  have hP : qdb ((10 : ℝ) ^ (((-24 : Int) : ℝ) / 160)) = -12 := by rw [qdb_rpow]; norm_num
  have P0 : (0 : ℝ) < (10 : ℝ) ^ (((-24 : Int) : ℝ) / 160) := by positivity
  refine ⟨fun b hb => ⟨fun low high he => ?_, fun hz h0 h1 hp => ?_⟩, fun b b' hb hb' hk hk' hf hw => ?_⟩
  · obtain ⟨rfl, rfl⟩ := he
    have p := part (pos b hb) (top b hb) hb.2.2.1
    have q2 : ∀ g : Int, qdb ((10 : ℝ) ^ (((2 * g : Int) : ℝ) / 160)) = g := fun g => by
      rw [qdb_rpow]; push_cast; ring
    rw [Rat.cast_natCast] at p
    simp only [gainAt, Rat.cast_natCast]
    cases hk : b.kind <;> cases hg : b.gain <;> simp only [Option.getD_some]
    · exact peak_shape p _ _ _
    · exact shelf_shape p (fun _ _ => rfl) (by positivity) (by positivity) one_pos (q2 _)
        (by rw [qdb_rpow]; push_cast; ring) (by simp [qdb_one])
    · exact shelf_shape p (fun _ _ => rfl) one_pos (by positivity) (by positivity) (by simp [qdb_one])
        (by rw [qdb_rpow]; push_cast; ring) (q2 _)
    · exact pass_shape p _ _ P0 hP (d0 b) (d1 b hb)
  · exact bank_responds (pos b hb) (top b hb) hb.2.2.1 hb.2.2.2.1 (b.gain.getD 0) h0 h1 hp
  · have hF : (0 : ℝ) < b.frequency := by exact_mod_cast pos b hb
    have F1 : (b.frequency : ℝ) < 24000 := by exact_mod_cast top b hb
    have hw' : (b.width / 40 : ℝ) < b'.width / 40 := by
      have : (b.width : ℝ) < b'.width := by exact_mod_cast hw
      linarith
    have range := fun (b : EqBand) (hb : b.InTable) f (f0 : (0 : ℝ) < f) (f1 : f < 24000) =>
      (gainAt_range (kind := .highPass) (pos b hb) (top b hb) hb.2.2.1 hb.2.2.2.1 (b.gain.getD 0) f0.le f1
        fun _ => f0).1
    have P1 : (10 : ℝ) ^ (((-24 : Int) : ℝ) / 160) < 1 :=
      Real.rpow_lt_one_of_one_lt_of_neg (by norm_num) (by norm_num)
    constructor <;> intro f f0 f1 <;> simp only [hk, hk']
    · refine qdb_lt (range b hb f f0 (f1.trans F1)) ?_
      simp only [gainAt, bandGain, Rat.cast_natCast]
      rw [← hf, (passGain_places hF F1 _ _).1 f1.le, (passGain_places hF F1 _ _).1 f1.le]
      exact mul_lt_mul_of_pos_left (corner_narrow hw' (by positivity) ((div_lt_one hF).mpr f1)) P0
    · refine qdb_lt (range b' hb' f (hF.trans f0) f1) ?_
      simp only [gainAt, bandGain, Rat.cast_natCast]
      rw [← hf, (passGain_places hF F1 _ _).2 f0.le, (passGain_places hF F1 _ _).2 f0.le]
      have y1 := highPlace_lt hF F1 le_rfl f0
      rw [((places hF F1).1 (le_refl (b.frequency : ℝ))).2] at y1
      have := corner_narrow hw' (highPlace_range hF F1 f1).1 y1
      nlinarith

/-- Filters with the responses of R171 and R175 exist. -/
def exampleBank : FilterBank where
  eq := exampleEq
  notch := exampleNotch
  eq_silent b := by simp [exampleEq, detect]
  notch_silent c := by simp [exampleNotch, detect]
  eq_flat b m x hk hg := by
    rw [exampleEq, hg]
    exact bankGain_flat hk _ _ _ _
  eq_response := ⟨_, example_response⟩
  notch_response c b1 b2 w1 w2 := by
    have b2' : (c.bin : ℝ) ≤ 511 := by exact_mod_cast b2
    have b1' : (0 : ℚ) < c.bin := by exact_mod_cast (by omega : 0 < c.bin)
    have := bank_bell (F := 375 * c.bin / 16) (by positivity) (by push_cast; linarith) w1 (by omega) (-c.depth)
    rw [exampleNotch]
    convert this using 1
    · push_cast; ring
    · push_cast; ring

/-! ## The transform -/

/-- A step of the circle, 1/32,768 of a turn, in rational numbers. -/
def stepAngle : ℚ := 314159265358979323846 / 100000000000000000000 / 16384

/-- The cosine and sine of `k` steps. -/
def turn : ℕ → ℚ × ℚ
  | 0 => (1, 0)
  | k + 1 =>
    let c := 1 - stepAngle ^ 2 / 2
    let s := stepAngle - stepAngle ^ 3 / 6
    ((turn k).1 * c - (turn k).2 * s, (turn k).1 * s + (turn k).2 * c)

/-- A cosine and a sine as a point of the plane. -/
def point (p : ℚ × ℚ) : ℂ := (p.1 : ℝ) + (p.2 : ℝ) * Complex.I

theorem turn_pow (k : ℕ) : point (turn k) = point (turn 1) ^ k := by
  induction k with
  | zero => simp [point, turn]
  | succ k ih =>
    rw [pow_succ, ← ih]
    simp only [point, turn]
    push_cast
    linear_combination (-((turn k).2 * (stepAngle - stepAngle ^ 3 / 6) : ℂ)) * Complex.I_sq

/-- One step is nearly exact. -/
theorem turn_one : ‖point (turn 1) - Complex.exp ((Real.pi / 16384 : ℝ) * Complex.I)‖ ≤ 1 / 5000000000000000 := by
  set t : ℝ := Real.pi / 16384 with ht
  have p1 := Real.pi_gt_d20
  have p2 := Real.pi_lt_d20
  have hs : (stepAngle : ℝ) = 314159265358979323846 / 100000000000000000000 / 16384 := by
    rw [stepAngle]; push_cast; ring
  set a : ℝ := (stepAngle : ℝ) with ha
  have a0 : 0 < a := by rw [hs]; norm_num
  have a1 : a ≤ 2 / 10000 := by rw [hs]; norm_num
  have d : |a - t| ≤ 1 / 100000000000000000000 := by
    rw [abs_le, hs, ht]; constructor <;> linarith
  have hc := Real.cos_bound (x := a) (by rw [abs_of_pos a0]; linarith)
  have hn := Real.sin_bound (x := a) (by rw [abs_of_pos a0]; linarith)
  rw [abs_of_pos a0] at hc hn
  have a4 : a ^ 4 ≤ (2 / 10000) ^ 4 := by gcongr
  have a5 : a ^ 5 / 100 ≤ a ^ 4 * (5 / 96) := by
    have : 0 < a ^ 4 := by positivity
    nlinarith
  have e1 : point (turn 1) - Complex.exp (a * Complex.I) =
      ((1 - a ^ 2 / 2 - Real.cos a : ℝ) : ℂ) + ((a - a ^ 3 / 6 - Real.sin a : ℝ) : ℂ) * Complex.I := by
    rw [Complex.exp_mul_I, ← Complex.ofReal_cos, ← Complex.ofReal_sin]
    simp only [point, turn]
    push_cast [← ha]
    ring
  have n1 : ‖point (turn 1) - Complex.exp (a * Complex.I)‖ ≤ 2 * (a ^ 4 * (5 / 96)) := by
    rw [e1]
    refine (norm_add_le _ _).trans ?_
    rw [norm_mul, Complex.norm_I, mul_one, Complex.norm_real, Complex.norm_real, Real.norm_eq_abs, Real.norm_eq_abs,
      abs_sub_comm _ (Real.cos a), abs_sub_comm _ (Real.sin a)]
    linarith
  have n2 : ‖Complex.exp (a * Complex.I) - Complex.exp (t * Complex.I)‖ ≤ 1 / 100000000000000000000 := by
    have : Complex.exp (a * Complex.I) - Complex.exp (t * Complex.I) =
        Complex.exp (t * Complex.I) * (Complex.exp (Complex.I * ((a - t : ℝ) : ℂ)) - 1) := by
      rw [mul_sub, ← Complex.exp_add, mul_one]
      congr 2
      push_cast; ring
    rw [this, norm_mul, Complex.norm_exp_ofReal_mul_I, one_mul]
    exact (Real.norm_exp_I_mul_ofReal_sub_one_le (x := a - t)).trans d
  calc _ = ‖(point (turn 1) - Complex.exp (a * Complex.I)) +
        (Complex.exp (a * Complex.I) - Complex.exp (t * Complex.I))‖ := by rw [sub_add_sub_cancel]
    _ ≤ _ := (norm_add_le _ _).trans (add_le_add n1 n2)
    _ ≤ _ := by linarith

/-- The error of powers grows with the exponent. -/
theorem pow_error {y z : ℂ} {ε : ℝ} (hz : ‖z‖ = 1) (h : ‖y - z‖ ≤ ε) (k : ℕ) (hk : 2 * k * ε ≤ 1) :
    ‖y ^ k - z ^ k‖ ≤ 2 * k * ε := by
  have ε0 : 0 ≤ ε := (norm_nonneg _).trans h
  induction k with
  | zero => simp
  | succ k ih =>
    push_cast at hk ⊢
    have i := ih (by nlinarith)
    have hy : ‖y ^ k‖ ≤ 2 := by
      have : ‖y ^ k‖ ≤ ‖y ^ k - z ^ k‖ + ‖z ^ k‖ := by simpa using norm_add_le (y ^ k - z ^ k) (z ^ k)
      rw [norm_pow z, hz, one_pow] at this
      nlinarith
    calc ‖y ^ (k + 1) - z ^ (k + 1)‖ = ‖y ^ k * (y - z) + (y ^ k - z ^ k) * z‖ := by ring_nf
      _ ≤ ‖y ^ k‖ * ‖y - z‖ + ‖y ^ k - z ^ k‖ * ‖z‖ := by
        rw [← norm_mul, ← norm_mul]; exact norm_add_le _ _
      _ ≤ 2 * ε + 2 * k * ε * 1 := by rw [hz]; gcongr
      _ = _ := by ring

/-- The turns of a bin from sample to sample are nearly exact. -/
theorem turn_error {b n : ℕ} (hb : b ≤ 511) (hn : n < 2048) :
    ‖(starRingEnd ℂ) (point (turn (16 * b * n))) - Complex.exp (-(2 * Real.pi * b * n / 2048) * Complex.I)‖
      ≤ 1 / 100000000 := by
  have hk : ((16 * b * n : ℕ) : ℝ) ≤ 16 * 511 * 2047 := by
    have : 16 * b * n ≤ 16 * 511 * 2047 := Nat.mul_le_mul (by omega) (by omega)
    exact_mod_cast this
  have e : Complex.exp (-(2 * Real.pi * b * n / 2048) * Complex.I) =
      (starRingEnd ℂ) (Complex.exp ((Real.pi / 16384 : ℝ) * Complex.I) ^ (16 * b * n)) := by
    rw [map_pow, ← Complex.exp_conj, ← Complex.exp_nat_mul]
    congr 1
    rw [map_mul, Complex.conj_ofReal, Complex.conj_I]
    push_cast; ring
  rw [e, ← map_sub, RCLike.norm_conj, turn_pow]
  refine (pow_error (Complex.norm_exp_ofReal_mul_I _) turn_one _ ?_).trans ?_ <;> linarith

/-- The sum of a bin, over a window of equal parts. -/
def binSum (frame : List Int) (b : ℕ) : ℚ × ℚ :=
  (∑ n ∈ Finset.range 2048, frame.getD n 0 / 1024 * (turn (16 * b * n)).1,
    ∑ n ∈ Finset.range 2048, frame.getD n 0 / 1024 * -(turn (16 * b * n)).2)

/-- The magnitude of a bin, in parts of 2^50 to a full-scale sine. -/
def binMagnitude (frame : List Int) (b : ℕ) : ℕ :=
  Nat.sqrt ⌊2 ^ 54 * ((binSum frame b).1 ^ 2 + (binSum frame b).2 ^ 2)⌋₊

theorem sqrt_floor {x : ℝ} (h : 0 ≤ x) {q : ℚ} (hq : (q : ℝ) = x ^ 2) : |(Nat.sqrt ⌊q⌋₊ : ℝ) - x| ≤ 1 := by
  have q0 : 0 ≤ q := by
    have : (0 : ℝ) ≤ q := by rw [hq]; positivity
    exact_mod_cast this
  have f1 : ((⌊q⌋₊ : ℕ) : ℝ) ≤ x ^ 2 := by rw [← hq]; exact_mod_cast Nat.floor_le q0
  have f2 : x ^ 2 < (⌊q⌋₊ : ℕ) + 1 := by rw [← hq]; exact_mod_cast Nat.lt_floor_add_one q
  have s1 : ((Nat.sqrt ⌊q⌋₊ : ℕ) : ℝ) ^ 2 ≤ (⌊q⌋₊ : ℕ) := by exact_mod_cast Nat.sqrt_le' ⌊q⌋₊
  have s2 : ((⌊q⌋₊ : ℕ) : ℝ) + 1 ≤ ((Nat.sqrt ⌊q⌋₊ : ℕ) + 1) ^ 2 := by exact_mod_cast Nat.succ_le_succ_sqrt' ⌊q⌋₊
  have g0 : (0 : ℝ) ≤ (Nat.sqrt ⌊q⌋₊ : ℕ) := by positivity
  have g1 : ((Nat.sqrt ⌊q⌋₊ : ℕ) : ℝ) ≤ x := by
    rw [← pow_le_pow_iff_left₀ g0 h two_ne_zero]; linarith
  have g2 : x ≤ (Nat.sqrt ⌊q⌋₊ : ℕ) + 1 := by
    rw [← pow_le_pow_iff_left₀ h (by linarith) two_ne_zero]; linarith
  rw [abs_le]
  constructor <;> linarith

/-- The sum of a bin is nearly exact. -/
theorem binSum_error {frame : List Int} {b : ℕ} {peak : ℝ} (hb : b ≤ 511) (h : ∀ n, |((frame.getD n 0 : ℤ) : ℝ)| ≤ peak) :
    ‖point (binSum frame b) - ∑ n ∈ Finset.range 2048, (((1 / 1024 : ℝ) : ℂ) * ((frame.getD n 0 : ℤ) : ℝ)) *
      Complex.exp (-(2 * Real.pi * b * n / 2048) * Complex.I)‖ ≤ peak / 50000000 := by
  have e : point (binSum frame b) = ∑ n ∈ Finset.range 2048,
      (((1 / 1024 : ℝ) : ℂ) * ((frame.getD n 0 : ℤ) : ℝ)) * (starRingEnd ℂ) (point (turn (16 * b * n))) := by
    simp only [point, binSum]
    push_cast
    rw [Finset.sum_mul, ← Finset.sum_add_distrib]
    refine Finset.sum_congr rfl fun n _ => ?_
    simp only [map_add, map_mul, Complex.conj_I, map_ratCast]
    ring
  have p0 : 0 ≤ peak := (abs_nonneg _).trans (h 0)
  rw [e, ← Finset.sum_sub_distrib]
  refine (norm_sum_le _ _).trans ?_
  calc _ ≤ ∑ _n ∈ Finset.range 2048, (1 / 1024 * peak) * (1 / 100000000) := by
        refine Finset.sum_le_sum fun n hn => ?_
        rw [← mul_sub, norm_mul, norm_mul, Complex.norm_real, Complex.norm_real, Real.norm_eq_abs, Real.norm_eq_abs,
          abs_of_pos (by norm_num : (0 : ℝ) < 1 / 1024)]
        have := turn_error hb (Finset.mem_range.mp hn)
        have := h n
        gcongr
    _ = _ := by rw [Finset.sum_const, Finset.card_range]; ring

/-- The magnitudes are those of the transform with equal parts. -/
theorem binMagnitude_error {frame : List Int} {b : ℕ} {peak ideal : ℝ} (hb : b ≤ 511) (hp : 8388608 ≤ peak)
    (h : ∀ v, v ∈ frame → |(v : ℝ)| ≤ peak) (he : IsMagnitude (fun _ => 1 / 1024) (fun n => (frame.getD n 0 : ℤ)) b ideal) :
    |8388608 * ((binMagnitude frame b : ℝ) / (2 ^ 50 : ℕ)) - ideal| ≤ peak / 2 ^ 24 := by
  have h' : ∀ n, |((frame.getD n 0 : ℤ) : ℝ)| ≤ peak := by
    intro n
    rcases lt_or_ge n frame.length with hn | hn
    · rw [List.getD_eq_getElem _ _ hn]; exact h _ (List.getElem_mem hn)
    · rw [List.getD_eq_default _ _ hn, Int.cast_zero, abs_zero]; linarith
  have s := binSum_error hb h'
  have r := abs_norm_sub_norm_le (point (binSum frame b)) (∑ n ∈ Finset.range 2048,
    (((1 / 1024 : ℝ) : ℂ) * ((frame.getD n 0 : ℤ) : ℝ)) * Complex.exp (-(2 * Real.pi * b * n / 2048) * Complex.I))
  rw [IsMagnitude] at he
  rw [← he] at r
  have q := sqrt_floor (x := 2 ^ 27 * ‖point (binSum frame b)‖) (mul_nonneg (by norm_num) (norm_nonneg _))
    (q := 2 ^ 54 * ((binSum frame b).1 ^ 2 + (binSum frame b).2 ^ 2)) (by
      rw [mul_pow, point, Complex.sq_norm, Complex.normSq_add_mul_I]
      push_cast; ring)
  change |(binMagnitude frame b : ℝ) - _| ≤ 1 at q
  have rs := r.trans s
  rw [abs_le] at q rs ⊢
  push_cast
  constructor <;> linarith

/-- Equal parts make a window: over the 2,048 samples nothing is left of the image of a bin's own sine. -/
theorem equal_window : IsWindow fun _ => 1 / 1024 := by
  intro b b1 b2 phase
  set z := Complex.exp (-(2 * Real.pi * b / 1024) * Complex.I) with hz
  have z1 : z ≠ 1 := by
    rw [hz, Ne, Complex.exp_eq_one_iff]
    rintro ⟨m, hm⟩
    have hpi : (Real.pi : ℂ) ≠ 0 := by exact_mod_cast Real.pi_ne_zero
    have : (-(b : ℂ)) = 1024 * m := by
      have hI := Complex.I_ne_zero
      field_simp at hm
      linear_combination hm
    have : (-(b : ℤ)) = 1024 * m := by exact_mod_cast this
    omega
  have z2 : z ^ 2048 = 1 := by
    rw [hz, ← Complex.exp_nat_mul, Complex.exp_eq_one_iff]
    exact ⟨-(2 * b), by push_cast; ring⟩
  have g : ∑ n ∈ Finset.range 2048, z ^ n = 0 := by
    have := mul_geom_sum z 2048
    rw [z2, sub_self] at this
    exact (mul_eq_zero.mp this).resolve_left (sub_ne_zero.mpr z1)
  have t : ∀ n : ℕ, (((1 / 1024 : ℝ) : ℂ) * (Real.cos (2 * Real.pi * b * n / 2048 + phase) : ℝ)) *
      Complex.exp (-(2 * Real.pi * b * n / 2048) * Complex.I) =
      1 / 2048 * Complex.exp (phase * Complex.I) + 1 / 2048 * Complex.exp (-phase * Complex.I) * z ^ n := by
    intro n
    rw [hz, ← Complex.exp_nat_mul, Complex.ofReal_cos, Complex.cos, mul_assoc (1 / 2048 : ℂ), ← Complex.exp_add]
    have e1 : Complex.exp (phase * Complex.I) =
        Complex.exp (((2 * Real.pi * b * n / 2048 + phase : ℝ) : ℂ) * Complex.I) *
          Complex.exp (-(2 * Real.pi * b * n / 2048) * Complex.I) := by
      rw [← Complex.exp_add]; exact congrArg Complex.exp (by push_cast; ring)
    have e2 : Complex.exp (-phase * Complex.I + n * (-(2 * Real.pi * b / 1024) * Complex.I)) =
        Complex.exp (-((2 * Real.pi * b * n / 2048 + phase : ℝ) : ℂ) * Complex.I) *
          Complex.exp (-(2 * Real.pi * b * n / 2048) * Complex.I) := by
      rw [← Complex.exp_add]; exact congrArg Complex.exp (by push_cast; ring)
    rw [e1, e2]
    push_cast
    ring
  rw [IsMagnitude, Finset.sum_congr rfl fun n _ => t n, Finset.sum_add_distrib, Finset.sum_const, ← Finset.mul_sum, g,
    mul_zero, add_zero, Finset.card_range, nsmul_eq_mul, ← mul_assoc]
  norm_num [Complex.norm_exp_ofReal_mul_I]

/-- A sine at a bin's centre has its amplitude as magnitude. -/
theorem binMagnitude_sine {b : ℕ} (h1 : 4 ≤ b) (h2 : b ≤ 511) {A θ : ℝ} {x : ℕ → ℤ} (hA : 0 ≤ A)
    (hx : IsTone (b * 23.4375) A θ x) :
    |8388608 * ((binMagnitude ((List.range 2048).map x) b : ℝ) / (2 ^ 50 : ℕ)) - A| ≤ 2 + A / 2 ^ 23 := by
  have ang : ∀ n : ℕ, 2 * Real.pi * (b * 23.4375) * n / 48000 + θ = 2 * Real.pi * b * n / 2048 + θ := fun n => by
    ring
  have near : ∀ n : ℕ, |A * Real.cos (2 * Real.pi * b * n / 2048 + θ) - x n| ≤ 1 / 2 := fun n => by
    have := abs_sub_round (A * Real.cos (2 * Real.pi * (b * 23.4375) * n / 48000 + θ))
    rwa [← hx n, ang] at this
  have size : ∀ n, |(x n : ℝ)| ≤ A + 1 / 2 := fun n => by
    have c := Real.abs_cos_le_one (2 * Real.pi * b * n / 2048 + θ)
    have a : |A * Real.cos (2 * Real.pi * b * n / 2048 + θ)| ≤ A := by
      rw [abs_mul, abs_of_nonneg hA]; nlinarith
    calc |(x n : ℝ)| = |A * Real.cos (2 * Real.pi * b * n / 2048 + θ)
          - (A * Real.cos (2 * Real.pi * b * n / 2048 + θ) - x n)| := by ring_nf
      _ ≤ _ := (abs_sub _ _).trans (add_le_add a (near n))
  have m := binMagnitude_error (frame := (List.range 2048).map x) (peak := 8388608 + A + 1 / 2) h2 (by linarith)
    (by
      intro v hv
      obtain ⟨n, -, rfl⟩ := List.mem_map.mp hv
      linarith [size n]) rfl
  have w := equal_window b h1 h2 θ
  rw [IsMagnitude] at w
  have d := abs_norm_sub_norm_le
    (∑ n ∈ Finset.range 2048, (((1 / 1024 : ℝ) : ℂ) * ((((List.range 2048).map x).getD n 0 : ℤ) : ℝ)) *
      Complex.exp (-(2 * Real.pi * b * n / 2048) * Complex.I))
    (A * ∑ n ∈ Finset.range 2048, (((1 / 1024 : ℝ) : ℂ) * (Real.cos (2 * Real.pi * b * n / 2048 + θ) : ℝ)) *
      Complex.exp (-(2 * Real.pi * b * n / 2048) * Complex.I))
  rw [norm_mul, ← w, Complex.norm_real, Real.norm_eq_abs, abs_of_nonneg hA, mul_one, Finset.mul_sum,
    ← Finset.sum_sub_distrib] at d
  have e : ‖∑ n ∈ Finset.range 2048, ((((1 / 1024 : ℝ) : ℂ) * ((((List.range 2048).map x).getD n 0 : ℤ) : ℝ)) *
      Complex.exp (-(2 * Real.pi * b * n / 2048) * Complex.I)
      - A * ((((1 / 1024 : ℝ) : ℂ) * (Real.cos (2 * Real.pi * b * n / 2048 + θ) : ℝ)) *
      Complex.exp (-(2 * Real.pi * b * n / 2048) * Complex.I)))‖ ≤ 1 := by
    refine (norm_sum_le _ _).trans ?_
    calc _ ≤ ∑ _n ∈ Finset.range 2048, (1 / 1024 * (1 / 2) : ℝ) := by
          refine Finset.sum_le_sum fun n hn => ?_
          have hx' : ((List.range 2048).map x).getD n 0 = x n := by
            rw [List.getD_eq_getElem _ _ (by simpa using Finset.mem_range.mp hn)]; simp
          rw [hx', show ∀ E : ℂ, (((1 / 1024 : ℝ) : ℂ) * ((x n : ℤ) : ℝ)) * E
            - A * ((((1 / 1024 : ℝ) : ℂ) * (Real.cos (2 * Real.pi * b * n / 2048 + θ) : ℝ)) * E) =
            ((-(1 / 1024 * (A * Real.cos (2 * Real.pi * b * n / 2048 + θ) - x n)) : ℝ) : ℂ) * E from fun E => by
              push_cast; ring, norm_mul, Complex.norm_real,
            show -(2 * Real.pi * b * n / 2048 : ℂ) * Complex.I = ((-(2 * Real.pi * b * n / 2048) : ℝ) : ℂ) * Complex.I by
              push_cast; ring, Complex.norm_exp_ofReal_mul_I, mul_one, Real.norm_eq_abs, abs_neg, abs_mul,
            abs_of_pos (by norm_num : (0 : ℝ) < 1 / 1024)]
          have := near n
          gcongr
      _ = 1 := by rw [Finset.sum_const, Finset.card_range]; norm_num
  have de := d.trans e
  rw [abs_le] at m de ⊢
  constructor <;> linarith

/-- A search passes the levels that are not reached. -/
theorem searchLevel_pass {full m : ℕ} (j k : ℕ) (q : ℤ) (h : ∀ i : ℕ, i < j → levelAtLeast full m (q - i) = false) :
    searchLevel full m (j + k) q = searchLevel full m k (q - j) := by
  induction j generalizing q with
  | zero => simp
  | succ j ih =>
    have h0 := h 0 (by omega)
    rw [Nat.cast_zero, sub_zero] at h0
    rw [show j + 1 + k = (j + k) + 1 by omega, searchLevel, h0, if_neg (by decide), ih]
    · congr 1; push_cast; ring
    · intro i hi
      have := h (i + 1) (by omega)
      rwa [show q - ((i + 1 : ℕ) : ℤ) = q - 1 - i by push_cast; ring] at this

/-- A magnitude near that of a full-scale sine has the level 0. -/
theorem binLevel_zero {full m : ℕ} (hf : 0 < full) (h : |(m : ℝ) / full - 1| ≤ 1 / 400) : binLevel full m = 0 := by
  have f0 : (0 : ℝ) < full := by exact_mod_cast hf
  rw [abs_le, neg_le_sub_iff_le_add, sub_le_iff_le_add, div_le_iff₀ f0] at h
  obtain ⟨h1, h2⟩ := h
  have h1' : 399 / 400 * (full : ℝ) ≤ m := by
    rw [← le_div_iff₀ f0]; linarith
  have m0 : m ≠ 0 := by
    rintro rfl
    norm_num at h1'
    linarith
  rw [binLevel, if_neg m0, show (576 : ℕ) = 96 + 480 by rfl, searchLevel_pass]
  · have : levelAtLeast full m 0 = true := by
      rw [levelAtLeast, decide_eq_true_eq]
      have : (full : ℝ) ^ 160 * 10 ^ (2 * 0 - 1 : ℤ).toNat ≤ (m : ℝ) ^ 160 * 10 ^ (1 - 2 * 0 : ℤ).toNat := by
        have a : (399 / 400 * (full : ℝ)) ^ 160 ≤ (m : ℝ) ^ 160 := by gcongr
        have c : (1 : ℝ) / 10 ≤ (399 / 400) ^ 160 := by norm_num
        rw [mul_pow] at a
        have p : (0 : ℝ) < full ^ 160 := by positivity
        norm_num only [Int.reduceSub, Int.reduceToNat, pow_zero, pow_one, mul_one, mul_zero]
        simp only [show (-1 : ℤ).toNat = 0 by rfl, show (1 : ℤ).toNat = 1 by rfl, pow_zero, pow_one]
        nlinarith
      exact_mod_cast this
    rw [show (480 : ℕ) = 479 + 1 by rfl, searchLevel]
    simp [this]
  · intro i hi
    rw [levelAtLeast, decide_eq_false_iff_not, not_le]
    have e1 : (1 - 2 * (96 - (i : ℤ))).toNat = 0 := by omega
    have e2 : 1 ≤ (2 * (96 - (i : ℤ)) - 1).toNat := by omega
    rw [e1, pow_zero, mul_one]
    have : (m : ℝ) ^ 160 < (full : ℝ) ^ 160 * 10 ^ 1 := by
      have a : (m : ℝ) ^ 160 ≤ (401 / 400 * (full : ℝ)) ^ 160 := by gcongr; linarith
      have c : ((401 : ℝ) / 400) ^ 160 < 10 := by norm_num
      rw [mul_pow] at a
      have p : (0 : ℝ) < full ^ 160 := by positivity
      nlinarith
    have h10 : m ^ 160 < full ^ 160 * 10 ^ 1 := by exact_mod_cast this
    exact h10.trans_le (Nat.mul_le_mul_left _ (Nat.pow_le_pow_right (by norm_num) e2))

/-- A transform with the laws of R153 exists. -/
def exampleAnalysis : Analysis where
  full := 2 ^ 50
  magnitude := binMagnitude
  silent b := by
    have z : ∀ k n, (List.replicate k (0 : ℤ)).getD n 0 = 0 := fun k n => by
      rcases lt_or_ge n k with h | h
      · rw [List.getD_eq_getElem _ _ (by simpa using h)]; simp
      · rw [List.getD_eq_default _ _ (by simpa using h)]
    simp only [binMagnitude, binSum, z, Int.cast_zero, zero_div, zero_mul, Finset.sum_const_zero]
    simp
  transform := ⟨_, equal_window, fun _ _ _ _ _ _ hb hp h he => binMagnitude_error hb hp h he⟩
  sine _ h1 h2 _ _ _ hA hx := binMagnitude_sine h1 h2 hA hx
  anchor b h1 h2 θ x hx := by
    have := binMagnitude_sine h1 h2 (by norm_num) hx
    refine binLevel_zero (by norm_num) ?_
    rw [abs_le] at this ⊢
    constructor <;> linarith

end Sys2Proof.Witness
end

