-- ==== Sys2Proof/Config.lean ====
section
/-! DEFINITION. What the manual fixes for no reader. The filters' arithmetic ("The internal structure, coefficients and
word width of the notch filters, and those of the EQ bands, are not given in this manual", R175) and the window and
transform of the analysis (R153) are opaque: of each only what its rule states is known. So are the image mark and the
bytes of a stored snapshot (R198). DESIGN CHOICE (notes/assumptions/3.md, 4.md, 6.md). -/

namespace Sys2Proof

/-- The filters of the part: some with the responses of R171 and R175. -/
opaque Config.filters [Inhabited FilterBank] : FilterBank

/-- The window and transform of the part: some with the laws of R153, its anchor among them. -/
opaque Config.analysis [Inhabited Analysis] : Analysis

/-- A two-byte word that is not 0xFFFF, as a number. -/
opaque Config.markNumber : Fin 65535

/-- The bytes of a snapshot as the flash holds them (R198). -/
opaque Config.snapshotBytes : Snapshot → List Byte

/-- The filters, and that there are such. -/
def Config.filterBank : FilterBank :=
  @Config.filters ⟨Witness.exampleBank⟩

/-- The transform, and that there is such. -/
def Config.transform : Analysis :=
  @Config.analysis ⟨Witness.exampleAnalysis⟩

/-- One EQ band at work on one sample (R171): the memory after it, and the value it gives. -/
def Config.eqFilter (b : EqBand) : SampleFilter :=
  Config.filterBank.eq b

/-- One notch at work on one sample (R175): the memory after it, and the value it gives. -/
def Config.notchFilter (c : NotchCut) : SampleFilter :=
  Config.filterBank.notch c

/-- The image mark (R198): an erased flash, which reads every byte 0xFF, does not hold it. -/
def Config.imageMark : Word16 :=
  BitVec.ofNat 16 Config.markNumber.1

end Sys2Proof
end

