-- ==== Sys2Proof/Machine/Defaults.lean ====
section
/-! DEFINITION. The factory defaults (R199). -/

namespace Sys2Proof.Machine

/-- OFF (silence), the floor of every gain, in qdB (Conventions, Units). -/
abbrev OFF : Int := -480

/-- The factory defaults of an input record (R104). -/
def factoryInput : InputSettings where
  cls := .spoken
  mode := .muted
  precinct := 0
  station := 0
  trim := 0
  threshold := -160
  closedAtt := 60
  hold := 750

/-- The factory defaults of a precinct record (R112). -/
def factoryPrecinct : PrecinctSettings where
  maxnom := 4
  lastOn := false

/-- The factory defaults of a zone record (R125). -/
def factoryZone : ZoneSettings where
  home := 0
  listen := 1
  ceiling := 24
  trim := 0
  duck := 48
  precedence := 100
  standbyDelay := 900
  wakeTime := 20
  installLive := false
  key := none
  cueSafe := false
  ringWatch := true
  ringThreshold := 48
  persistence := 3
  release := 1406

/-- The factory defaults (R199): every distance 0, every preset without bands, cue 0 defined with no label and no
entries, no FIXED notch. -/
def factoryDefaults : WorkingCopy where
  inputs := Table.fill 32 factoryInput
  precincts := Table.fill 4 factoryPrecinct
  zones := Table.fill 24 factoryZone
  geometry := Table.fill 16 (Table.fill 24 0)
  presets := Table.fill 15 []
  cues := (Table.fill 64 none).set 0 (some { label := none, entries := [] })
  notches := Table.fill 24 (Table.fill 8 none)

end Sys2Proof.Machine
end

