-- ==== Sys2Proof/Machine/Snapshots.lean ====
section
/-! DEFINITION. The working copy as a snapshot holds it, and the flash image's sum (R196, R198). -/

namespace Sys2Proof.Machine

/-! ## A snapshot of the working copy (R196) -/

def storedInput (v : InputSettings) : StoredInput where
  cls := classCode v.cls
  mode := modeCode v.mode
  precinct := v.precinct.1 + 1
  station := v.station.1 + 1
  trim := v.trim
  threshold := v.threshold
  closedAtt := v.closedAtt
  hold := v.hold

def storedPrecinct (v : PrecinctSettings) : StoredPrecinct where
  maxnom := v.maxnom
  lastOn := flagCode v.lastOn

def storedZone (v : ZoneSettings) : StoredZone where
  home := v.home.1 + 1
  listen := v.listen.setWidth 8
  ceiling := v.ceiling
  trim := v.trim
  duck := v.duck
  precedence := v.precedence
  standbyDelay := v.standbyDelay
  wakeTime := v.wakeTime
  installLive := flagCode v.installLive
  key := v.key.map fun k => k.1 + 1
  cueSafe := flagCode v.cueSafe
  ringWatch := flagCode v.ringWatch
  ringThreshold := v.ringThreshold
  persistence := v.persistence
  release := v.release

def storedBand (b : EqBand) : BandForm where
  kind := bandKindCode b.kind
  frequency := b.frequency
  gain := b.gain
  width := b.width

/-- A cue entry in the form of the request that writes it (R72). -/
def storedEntry : CueEntry → EntryForm
  | .place i z level rate preset delay => .place (i.1 + 1) (z.1 + 1) level rate (preset.map Fin.val) delay
  | .set i z level rate preset .keep => .set (i.1 + 1) (z.1 + 1) level rate (preset.map Fin.val) none false
  | .set i z level rate preset .geometric => .set (i.1 + 1) (z.1 + 1) level rate (preset.map Fin.val) none true
  | .set i z level rate preset (.override d) => .set (i.1 + 1) (z.1 + 1) level rate (preset.map Fin.val) (some d) false
  | .retire i z => .retire (i.1 + 1) (z.1 + 1)
  | .zone z on => .zone (z.1 + 1) (flagCode on)
  | .notify => .notify

def storedCue (c : Cue) : StoredCue where
  label := c.label.getD []
  entries := c.entries.map storedEntry

/-- A zone's FIXED notches by ascending slot. -/
def listedNotches (t : Table (Option FixedNotch) 8) : List StoredNotch :=
  (List.finRange 8).filterMap fun k =>
    (t.get k).map fun n => { slot := k.1, bin := n.bin, depth := n.depth, width := n.width }

/-- The snapshot of a working copy, the whole of it (R196). -/
def snapshotOf (w : WorkingCopy) : Snapshot where
  inputs := w.inputs.map storedInput
  precincts := w.precincts.map storedPrecinct
  zones := w.zones.map storedZone
  geometry := w.geometry
  presets := w.presets.map (List.map storedBand)
  cues := w.cues.map (Option.map storedCue)
  notches := w.notches.map listedNotches

/-! ## The image (R198) -/

/-- The total of bytes, modulo 65,536. -/
def totalOf (bs : List Byte) : Word16 :=
  bs.foldr (fun b n => b.setWidth 16 + n) 0

/-- The total of every byte of a mark and a snapshot, modulo 65,536 (R198). -/
def imageSum (mark : Word16) (n : Snapshot) : Word16 :=
  totalOf ((mark >>> 8).setWidth 8 :: mark.setWidth 8 :: Config.snapshotBytes n)

/-- The mark of an erased image area: every byte 0xFF (R198). -/
def erasedMark : Word16 :=
  0xFFFF

/-- An erased flash: it answers, and every byte of its mark and sum is 0xFF (R198). No check reaches its snapshot, for
which the factory defaults stand (notes/assumptions/6.md). -/
def erasedFlash : FlashImage where
  answers := true
  mark := erasedMark
  snapshot := snapshotOf factoryDefaults
  sum := 0xFFFF

/-- The flash once a write of a snapshot has ended DONE: the mark, the snapshot and its sum all read back as written
(R197). -/
def imageOf (w : WorkingCopy) : FlashImage where
  answers := true
  mark := Config.imageMark
  snapshot := snapshotOf w
  sum := imageSum Config.imageMark (snapshotOf w)

end Sys2Proof.Machine
end

