-- ==== Sys2Proof/Machine/State.lean ====
section
/-! DEFINITION. The state of the NW3224, block by block (Block overview), as plain data; the two kinds of stop; and
the machine right after reset. -/

namespace Sys2Proof.Machine

/-! ## Why a step can stop -/

/-- What stops the machine with a fault: the manual names nothing that does. An amplifier fault, a runaway or a
failed store write is a state of the part, and the part goes on. No meaning raises one. -/
inductive Fault
  deriving DecidableEq, Repr

/-- Why a command has no meaning. -/
inductive Refusal
  /-- The dispatch raises it for a row of the table that has no meaning yet. Safe: the step stops, nothing is
  claimed of the command. No arm raises it now. -/
  | notModelled (mnemonic : String)
  deriving DecidableEq, Repr

/-! ## Route engine (chapters 1 to 5) -/

/-- A route record (1.2). Its slot is its place in the table; its pending delay and halt cause stand in its
state (R4). -/
structure Route where
  input   : InputIx
  zone    : ZoneIx
  state   : RouteState
  armed   : Bool
  flip    : Bool
  live    : Bank
  staged  : Bank
  current : Int
  target  : Int
  delay   : Nat
  limited : Bool
  deriving DecidableEq, Repr

/-- The last cue result (R88). -/
structure CueResult where
  cue       : CueIx
  applied   : Nat
  skipped   : Nat
  firstSkip : Option (Nat × Status)
  deriving DecidableEq, Repr

/-- An accepted selector, each field in its range (R91). -/
structure Selector where
  input    : Option InputIx
  zone     : Option ZoneIx
  precinct : Option PrecinctIx
  cls      : Option InputClass
  state    : Option SlotState
  armed    : Option Bool
  cause    : Option HaltCause
  limited  : Option Bool
  deriving DecidableEq, Repr

/-- What a scan is doing, with the fields only its kind has (5.2). -/
inductive ScanJob
  | find (mode : FindMode)
  | sweep (action : SweepAction) (clamped : Bool) (affected refused : Nat)
      (firstRefusal : Option (SlotIx × Status))
  deriving DecidableEq, Repr

/-- The scan in progress (5.2, R93). -/
structure Scan where
  job       : ScanJob
  selector  : Selector
  cursor    : SlotIx
  remaining : Nat
  deriving DecidableEq, Repr

/-- The route table (R1), every zone's demand count (R41), the cue queue (R76), the last cue result (R88) and the
scan in progress (R93). -/
structure RouteEngine where
  table  : Table (Option Route) 256
  demand : Table Nat 24
  queue  : List CueIx
  result : Option CueResult
  scan   : Option Scan
  deriving DecidableEq, Repr

/-! ## Gate unit (chapter 6) -/

/-- The live fields of an input record (R104). The gate machine runs for an AUTO input; for the others the record
keeps CLOSED and the reported state follows the mode (R106). -/
structure GateLive where
  gate    : GateState
  counter : Nat
  peak    : Int
  deriving DecidableEq, Repr

/-- The live part of every input record, and every precinct's open list, oldest first (R112). -/
structure GateUnit where
  inputs : Table GateLive 32
  lists  : Table (List InputIx) 4
  deriving DecidableEq, Repr

/-! ## Zone controller (chapter 7) -/

/-- A debounced line (R129): its raw level, its debounced level, and the sample periods for which the two have
differed while a debounce count runs. -/
structure Line where
  raw     : Bool
  settled : Bool
  count   : Option Nat
  deriving DecidableEq, Repr

/-- The zone controller's live fields of a zone record (R125), and its amplifier-enable output (R131). -/
structure ZoneLive where
  power          : PowerState
  ampEnabled     : Bool
  controllerLive : Bool
  keyLive        : Bool
  live           : Bool
  demandPresent  : Bool
  timer          : ZoneTimer
  deriving DecidableEq, Repr

/-- The live part of every zone record, the 24 amplifier-status lines (level true is OK) and the 16 key lines
(level true is on). -/
structure ZoneController where
  zones : Table ZoneLive 24
  amps  : Table Line 24
  keys  : Table Line 16
  deriving DecidableEq, Repr

/-! ## Ring detector (chapter 8) -/

/-- A notch record (8.1). `fresh` is the model's own: the notch was placed since the last block began, so its
slot's filter memory starts from silence with the next block (R175). -/
structure Notch where
  slot     : NotchIx
  kind     : NotchKind
  bin      : Nat
  depth    : Int
  sinceHit : Nat
  fresh    : Bool
  deriving DecidableEq, Repr

/-- The ring fields of a zone (8.1), the notch list oldest first. -/
structure Ring where
  notches      : List Notch
  candidate    : Option Nat
  count        : Nat
  margin       : Nat
  runaway      : Bool
  sinceConfirm : Nat
  deriving DecidableEq, Repr

/-- A whole frame of one zone: whether the zone was ACTIVE for the whole of it, and its samples, newest first (R152,
R153). -/
structure FrameCapture where
  active  : Bool
  samples : List Int
  deriving DecidableEq, Repr

/-- The frame of one zone under way; the frames that have been cut at their 64th block completion and whose end has not
been taken yet, oldest first; and the ended frame whose result is due (R152). -/
structure ZoneFrame where
  active  : Bool
  samples : List Int
  ended   : List FrameCapture
  due     : Option FrameCapture
  deriving DecidableEq, Repr

/-- The ring fields of every zone, and the analysis frame under way: the block completions since it began, or none
while the first frame after a RESTART waits for its first block (R167). -/
structure RingDetector where
  zones  : Table Ring 24
  frames : Table ZoneFrame 24
  blocks : Option Nat
  deriving DecidableEq, Repr

/-! ## Signal engine (chapters 2 and 9) -/

/-- What the signal engine uses for one occupied slot throughout a block: the route's input, zone, tap delay
(R170), gain coefficient (R42) and bands (R172), each as it stood when the block began. -/
structure Tap where
  input : InputIx
  zone  : ZoneIx
  delay : Nat
  coeff : Nat
  bands : List EqBand
  deriving DecidableEq, Repr

/-- The clock state (R177): `present` and `timePresent` are the presence monitor's, the time in sample periods up
to 1 s; `moving` says that a move to the house clock waits for the end of the block under way (R178). -/
structure Clock where
  setting     : ClockSetting
  status      : ClockStatus
  source      : ClockSource
  moving      : Bool
  present     : Bool
  timePresent : Nat
  deriving DecidableEq, Repr

/-- The delay lines, newest sample first, a position beyond the list reading 0 (R169); the block under way (its
samples so far and each input's largest magnitude, R46); the taps and zones of the block under way, a zone that
forms no bus having none (R43, R176); the filter memories (R172, R175); the last sample sent for each zone
(R168); the CLIP indicators (R45); and the clock. -/
structure SignalEngine where
  lines    : Table (List Int) 32
  elapsed  : Nat
  peaks    : Table Nat 32
  taps     : Table (Option Tap) 256
  eqMemory : Table (List FilterMemory) 256
  buses    : Table (Option (List (NotchIx × NotchCut))) 24
  notchMem : Table (Table FilterMemory 8) 24
  outputs  : Table Int 24
  clips    : Table Bool 24
  clock    : Clock
  deriving DecidableEq, Repr

/-! ## Control line port (chapter 10) -/

/-- The framing phase (R182). -/
inductive FramingPhase
  | hunting | collecting | discarding
  deriving DecidableEq, Repr

/-- The receiver state (R182). -/
inductive ReceiverState
  | idle | receiving | working
  deriving DecidableEq, Repr

/-- The request being worked: its KIND, and whether it is a scan (10.2). -/
structure InProgress where
  kind : Byte
  scan : Bool
  deriving DecidableEq, Repr

/-- An answer: the echoed KIND, the STATUS and the body (10.6, Frame). -/
structure Answer where
  kind   : Byte
  status : Status
  body   : List Byte
  deriving DecidableEq, Repr

/-- Where a RESTART stands: none taken, its answer not yet sent in full, or the sequence due (R186). -/
inductive RestartState
  | none | answering | due
  deriving DecidableEq, Repr

/-- The port's state (10.2, 10.4). `answers` are the answers waiting, oldest first; while `driver` is enabled the
first of them is being sent (R181). The gap timer, when it runs, holds the sample periods since the last byte. -/
structure Port where
  phase      : FramingPhase
  partFrame  : List Byte
  gap        : Option Nat
  inProgress : Option InProgress
  answers    : List Answer
  driver     : Bool
  notices    : BitVec 13
  mask       : BitVec 13
  lastNotify : Option CueIx
  attnLow    : Bool
  restart    : RestartState
  deriving DecidableEq, Repr

/-! ## Installation store (chapter 11) -/

/-- The working copy, the flash, and the store state: WRITING while a snapshot is held (R196). -/
structure Store where
  working : WorkingCopy
  flash   : FlashImage
  writing : Option WorkingCopy
  deriving DecidableEq, Repr

/-- Whether the part is without power, held in power-on by RST_L, or running (R200). -/
inductive RunState
  | off | held | running
  deriving DecidableEq, Repr

/-- The whole machine, and the commands that wait, first in, first out. -/
structure State where
  run     : RunState
  engine  : RouteEngine
  gates   : GateUnit
  power   : ZoneController
  ring    : RingDetector
  signal  : SignalEngine
  port    : Port
  store   : Store
  pending : List Instr
  deriving DecidableEq, Repr

/-! ## The machine right after reset

The start-up sequence of R200 has run once, on an erased flash, with every amplifier-status line reading OK and
every key off: DESIGN CHOICE (notes/assumptions/1.md). -/

/-- No slot occupied, no demand, cue 0 queued, no result, no scan (R25, R50, R90, R103). -/
def RouteEngine.atStart : RouteEngine where
  table := Table.fill 256 none
  demand := Table.fill 24 0
  queue := [0]
  result := none
  scan := none

/-- Every gate closed with counter 0 and peak −480, every open list empty (R124). -/
def GateUnit.atStart : GateUnit where
  inputs := Table.fill 32 { gate := .closed, counter := 0, peak := OFF }
  lists := Table.fill 4 []

/-- A zone in STANDBY, switched on by nobody (R141). -/
def ZoneLive.resting : ZoneLive where
  power := .standby
  ampEnabled := false
  controllerLive := false
  keyLive := false
  live := false
  demandPresent := false
  timer := .none

/-- No notch, no candidate, no margin, no runaway (R167). -/
def Ring.quiet : Ring where
  notches := []
  candidate := none
  count := 0
  margin := 0
  runaway := false
  sinceConfirm := 0

/-- No frame under way holds a sample, none has ended and none is due (R167). -/
def ZoneFrame.empty : ZoneFrame where
  active := false
  samples := []
  ended := []
  due := none

/-- The power-on clock state (R180). -/
def Clock.atPowerOn : Clock where
  setting := .internal
  status := .internal
  source := .internal
  moving := false
  present := false
  timePresent := 0

/-- The signal engine's power-on state (R180). -/
def SignalEngine.atPowerOn : SignalEngine where
  lines := Table.fill 32 []
  elapsed := 0
  peaks := Table.fill 32 0
  taps := Table.fill 256 none
  eqMemory := Table.fill 256 []
  buses := Table.fill 24 none
  notchMem := Table.fill 24 (Table.fill 8 [])
  outputs := Table.fill 24 0
  clips := Table.fill 24 false
  clock := Clock.atPowerOn

/-- IDLE and hunting, nothing in progress, the mask all-enabled, no notice (R182, R192). -/
def Port.atStart : Port where
  phase := .hunting
  partFrame := []
  gap := none
  inProgress := none
  answers := []
  driver := false
  notices := 0
  mask := BitVec.allOnes 13
  lastNotify := none
  attnLow := false
  restart := .none

/-- The machine right after reset (R200): DEFAULTS and RESTARTED raised, ATTN_L low, cue 0 queued. -/
def State.reset : State where
  run := .running
  engine := RouteEngine.atStart
  gates := GateUnit.atStart
  power :=
    { zones := Table.fill 24 ZoneLive.resting
      amps := Table.fill 24 { raw := true, settled := true, count := none }
      keys := Table.fill 16 { raw := false, settled := false, count := none } }
  ring := { zones := Table.fill 24 Ring.quiet, frames := Table.fill 24 ZoneFrame.empty, blocks := some 0 }
  signal := SignalEngine.atPowerOn
  port := { Port.atStart with notices := 0x1800, attnLow := true }
  store := { working := factoryDefaults, flash := erasedFlash, writing := none }
  pending := []

end Sys2Proof.Machine
end

