-- ==== Sys2Proof/Machine/Operands.lean ====
section
/-! DEFINITION. The operand forms: identifiers that name a thing and quantities that set an amount (Conventions,
Out-of-range programming). An identifier out of range names nothing; a quantity is clamped to its range. -/

namespace Sys2Proof.Machine

/-! ## Identifiers -/

/-- A thing numbered 1 to `n` (inputs, zones, precincts, stations, keys). -/
def number? (n k : Nat) : Option (Fin n) :=
  if h : 1 ≤ k ∧ k ≤ n then some ⟨k - 1, by omega⟩ else none

/-- A thing numbered 0 to `n - 1` (cues, notch slots, presets). -/
def index? (n k : Nat) : Option (Fin n) :=
  if h : k < n then some ⟨k, h⟩ else none

/-- An optional field: absent, or present and judged by `f`; none where it is present and out of range. -/
def optional? (f : α → Option β) : Option α → Option (Option β)
  | none => some none
  | some a => (f a).map some

/-! ## Quantities -/

def clampInt (lo hi x : Int) : Int :=
  max lo (min hi x)

def clampNat (lo hi x : Nat) : Nat :=
  max lo (min hi x)

/-- Whether clamping changes an optional quantity. -/
def clampChanges [DecidableEq α] (clamp : α → α) : Option α → Bool
  | none => false
  | some a => clamp a ≠ a

/-- OK, or CLAMPED where a quantity had to be clamped. -/
def okStatus (clamped : Bool) : Status :=
  if clamped then .clamped else .ok

/-- A level (R6): −480..+48 qdB. -/
def clampLevel : Int → Int := clampInt (-480) 48
/-- A ramp rate (R6): 0..48 qdB per block. -/
def clampRate : Nat → Nat := clampNat 0 48
/-- A delay override (R6): 0..24,000 samples. -/
def clampDelay : Nat → Nat := clampNat 0 24000
/-- An input trim (R104): −48..+48 qdB. -/
def clampInputTrim : Int → Int := clampInt (-48) 48
/-- A gate threshold (R104): −240..0 qdB. -/
def clampThreshold : Int → Int := clampInt (-240) 0
/-- A closed attenuation (R104): 0..160 qdB. -/
def clampClosedAtt : Int → Int := clampInt 0 160
/-- A hold (R104): 1..4,095 blocks. -/
def clampHold : Nat → Nat := clampNat 1 4095
/-- A MAXNOM (R112): 1..16. -/
def clampMaxnom : Nat → Nat := clampNat 1 16
/-- A ceiling (R125): −96..+48 qdB. -/
def clampCeiling : Int → Int := clampInt (-96) 48
/-- A zone trim (R125): −96..+24 qdB. -/
def clampZoneTrim : Int → Int := clampInt (-96) 24
/-- A duck depth (R125): 0..160 qdB. -/
def clampDuck : Int → Int := clampInt 0 160
/-- A precedence (R125): 0..300 tenths of a millisecond. -/
def clampPrecedence : Nat → Nat := clampNat 0 300
/-- A standby delay (R125): 0..3,600 s. -/
def clampStandbyDelay : Nat → Nat := clampNat 0 3600
/-- A wake time (R125): 1..50 tenths of a second. -/
def clampWakeTime : Nat → Nat := clampNat 1 50
/-- A ring threshold (R125): 24..120 qdB. -/
def clampRingThreshold : Int → Int := clampInt 24 120
/-- A persistence (R125): 2..8 frames. -/
def clampPersistence : Nat → Nat := clampNat 2 8
/-- A release time (R125): 64..65,535 frames. -/
def clampRelease : Nat → Nat := clampNat 64 65535
/-- A distance (R148): 0..15,000 cm. -/
def clampDistance : Nat → Nat := clampNat 0 15000
/-- A notch depth (R161): 12..72 qdB. -/
def clampNotchDepth : Int → Int := clampInt 12 72
/-- A notch width (R161): 1..10 tenths of an octave. -/
def clampNotchWidth : Nat → Nat := clampNat 1 10
/-- A band frequency (R171): 20..20,000 Hz. -/
def clampFrequency : Nat → Nat := clampNat 20 20000
/-- A band gain (R171): −60..+48 qdB. -/
def clampBandGain : Int → Int := clampInt (-60) 48
/-- A band width (R171): 1..40 tenths of an octave. -/
def clampBandWidth : Nat → Nat := clampNat 1 40

/-! ## The selector (R91) -/

/-- The selector a request carries, if every field present is in its range (R94, R95). -/
def selector? (f : SelectorForm) : Option Selector :=
  match optional? (number? 32) f.input, optional? (number? 24) f.zone, optional? (number? 4) f.precinct,
      optional? class? f.cls, optional? slotState? f.state, optional? flag? f.armed, optional? cause? f.cause,
      optional? flag? f.limited with
  | some i, some z, some p, some c, some st, some a, some h, some l =>
    some { input := i, zone := z, precinct := p, cls := c, state := st, armed := a, cause := h, limited := l }
  | _, _, _, _, _, _, _, _ => none

/-- The action a sweep carries, its level value clamped (R95). -/
def sweepAction? (action : Nat) (level : Option Int) : Option SweepAction :=
  match action, level with
  | 0, _ => some .retire
  | 1, _ => some .halt
  | 2, _ => some .clear
  | 3, _ => some .arm
  | 4, some v => some (.level (clampLevel v))
  | _, _ => none

/-! ## Cue entries (R72, R73) -/

/-- The delay edit two optional fields ask for; both at once is refused (R52, R73). -/
def delayEdit? (delay : Option Nat) (geometric : Bool) : Option DelayEdit :=
  match delay, geometric with
  | none, false => some .keep
  | none, true => some .geometric
  | some d, false => some (.override (clampDelay d))
  | some _, true => none

/-- The entry as it is stored, its quantities clamped; none where R73's first check refuses it. -/
def cueEntry? : EntryForm → Option CueEntry
  | .place i z level rate preset delay =>
    match number? 32 i, number? 24 z, optional? (index? 16) preset with
    | some i, some z, some p =>
      some (.place i z (clampLevel level) (rate.map clampRate) p (delay.map clampDelay))
    | _, _, _ => none
  | .set i z level rate preset delay geometric =>
    match number? 32 i, number? 24 z, optional? (index? 16) preset, delayEdit? delay geometric with
    | some i, some z, some p, some d => some (.set i z (level.map clampLevel) (rate.map clampRate) p d)
    | _, _, _, _ => none
  | .retire i z =>
    match number? 32 i, number? 24 z with
    | some i, some z => some (.retire i z)
    | _, _ => none
  | .zone z on =>
    match number? 24 z, flag? on with
    | some z, some on => some (.zone z on)
    | _, _ => none
  | .notify => some .notify
  | .unknown _ => none

/-- Whether storing an entry clamps one of its quantities (R73). -/
def entryClamped : EntryForm → Bool
  | .place _ _ level rate _ delay =>
    clampChanges clampLevel (some level) || clampChanges clampRate rate || clampChanges clampDelay delay
  | .set _ _ level rate _ delay _ =>
    clampChanges clampLevel level || clampChanges clampRate rate || clampChanges clampDelay delay
  | _ => false

/-- Every item judged; none where one is refused. -/
def all? (f : α → Option β) : List α → Option (List β)
  | [] => some []
  | a :: as =>
    match f a, all? f as with
    | some b, some bs => some (b :: bs)
    | _, _ => none

/-! ## EQ bands (R171, R173) -/

/-- The band as it is stored: a HIGH-PASS carries no gain, any other without one is taken with gain 0. -/
def eqBand? (b : BandForm) : Option EqBand :=
  match bandKind? b.kind, b.gain with
  | some .highPass, some _ => none
  | some .highPass, none =>
    some { kind := .highPass, frequency := clampFrequency b.frequency, gain := none
           width := clampBandWidth b.width }
  | some k, gain =>
    some { kind := k, frequency := clampFrequency b.frequency, gain := some (clampBandGain (gain.getD 0))
           width := clampBandWidth b.width }
  | none, _ => none

/-- Whether storing a band clamps one of its quantities (R173). -/
def bandClamped (b : BandForm) : Bool :=
  clampChanges clampFrequency (some b.frequency) || clampChanges clampBandGain b.gain
    || clampChanges clampBandWidth (some b.width)

/-! ## Listen sets (R126, R193) -/

/-- A listen set as its byte carries it; a set bit among bits 4..7 names no precinct (R193). -/
def listen? (b : Byte) : Option (BitVec 4) :=
  if b >>> 4 = 0 then some (b.setWidth 4) else none

/-- Whether a listen set holds a precinct. -/
def listens (set : BitVec 4) (p : PrecinctIx) : Bool :=
  set.getLsbD p

/-- The listen set with a precinct added. -/
def withPrecinct (set : BitVec 4) (p : PrecinctIx) : BitVec 4 :=
  set ||| BitVec.twoPow 4 p

end Sys2Proof.Machine
end

