-- ==== Sys2Proof/Machine/Flags.lean ====
section
/-! DEFINITION. The port's flags: the notice set, its mask and ATTN_L (R188, R189), and the receiver state (R182). -/

namespace Sys2Proof.Machine

/-- A notice as its bit of the notice word (10.6). -/
def noticeMask (n : Notice) : BitVec 13 :=
  BitVec.twoPow 13 (noticeBit n)

/-- Whether at least one notice is both set and enabled (R189). -/
def attention (notices mask : BitVec 13) : Bool :=
  notices &&& mask ≠ 0

/-- ATTN_L worked out afresh (R189). -/
def Port.refreshAttn (p : Port) : Port :=
  { p with attnLow := attention p.notices p.mask }

/-- A notice raised into the set; ATTN_L changes in the same event (R188, R189). -/
def State.raise (n : Notice) (s : State) : State :=
  { s with port := ({ s.port with notices := s.port.notices ||| noticeMask n } : Port).refreshAttn }

/-- A notice raised where a condition holds. -/
def State.raiseIf (c : Bool) (n : Notice) (s : State) : State :=
  if c then s.raise n else s

/-- The receiver state (R182): WORKING while a request is in progress, else as the framing phase says. -/
def Port.receiver (p : Port) : ReceiverState :=
  match p.inProgress, p.phase with
  | some _, _ => .working
  | none, .hunting => .idle
  | none, .collecting => .receiving
  | none, .discarding => .receiving

end Sys2Proof.Machine
end

