-- ==== Sys2Proof/Machine/Layout.lean ====
section
/-! DEFINITION. How the fields of an answer are written as bytes (R193, R194). Multi-byte values go most
significant byte first. An answer that carries a record writes its fixed fields in the order its rule lists
them, then a presence byte for its optional fields where it has any, then those present, as a request does:
DESIGN CHOICE where the manual leaves a place open (notes/assumptions/7.md). -/

namespace Sys2Proof.Machine

/-- An unsigned one-byte field. -/
def u8 (n : Nat) : List Byte :=
  [BitVec.ofNat 8 n]

/-- An unsigned two-byte field. -/
def u16 (n : Nat) : List Byte :=
  [BitVec.ofNat 8 (n / 256), BitVec.ofNat 8 n]

/-- A signed two-byte field, two's complement. -/
def s16 (x : Int) : List Byte :=
  u16 (x % 65536).toNat

/-- A thing numbered from 1. -/
def uNumber (i : Fin n) : List Byte :=
  u8 (i.1 + 1)

/-- A thing numbered from 0. -/
def uIndex (i : Fin n) : List Byte :=
  u8 i.1

/-- On or off, yes or no, present or absent, set or clear. -/
def uFlag (b : Bool) : List Byte :=
  u8 (flagCode b)

/-- A presence byte, bit 0 for the first optional field. -/
def presence (fields : List Bool) : List Byte :=
  u8 (fields.foldr (fun b n => flagCode b + 2 * n) 0)

/-- An optional field where it is present. -/
def optField (f : α → List Byte) : Option α → List Byte
  | none => []
  | some a => f a

/-- A list: its item count, then its items. -/
def listField (f : α → List Byte) (as : List α) : List Byte :=
  u8 as.length ++ as.flatMap f

/-- A text: its character count, then its characters. -/
def textField (t : List Byte) : List Byte :=
  u8 t.length ++ t

/-- A listen set (R193). -/
def listenField (set : BitVec 4) : List Byte :=
  [set.setWidth 8]

/-- A notice word (10.6). -/
def noticeWord (w : BitVec 13) : List Byte :=
  u16 w.toNat

/-! ## Records -/

/-- The slot state a route state is named by (10.6). -/
def slotState : RouteState → SlotState
  | .steady => .steady
  | .ramping => .ramping
  | .dipping _ => .dipping
  | .retiring => .retiring
  | .halted _ => .halted

/-- The pending delay, present while DIPPING (R4). -/
def Route.pending (r : Route) : Option Nat :=
  match r.state with
  | .dipping d => some d
  | .steady | .ramping | .retiring | .halted _ => none

/-- The halt cause, present while HALTED (R4). -/
def Route.cause (r : Route) : Option HaltCause :=
  match r.state with
  | .halted c => some c
  | .steady | .ramping | .retiring | .dipping _ => none

/-- A bank in a record image: level, ramp rate, EQ preset, delay override, 0 when absent (R194). -/
def bankImage (b : Bank) : List Byte :=
  s16 b.level ++ u8 b.rate ++ uIndex b.preset ++ u16 (b.delay.getD 0)

/-- The route record image, 26 bytes (R194). -/
def routeImage (k : SlotIx) (r : Route) : List Byte :=
  uIndex k ++ uNumber r.input ++ uNumber r.zone ++ u8 (slotStateCode (slotState r.state))
    ++ presence [r.armed, r.flip, r.limited, r.pending.isSome, r.live.delay.isSome, r.staged.delay.isSome]
    ++ u8 ((r.cause.map causeCode).getD 0) ++ s16 r.current ++ s16 r.target ++ u16 r.delay
    ++ u16 (r.pending.getD 0) ++ bankImage r.live ++ bankImage r.staged

/-- A cue entry: its kind code, its fixed fields, its own presence byte, the optional fields present (R193). -/
def entryImage : CueEntry → List Byte
  | .place i z level rate preset delay =>
    u8 0 ++ uNumber i ++ uNumber z ++ s16 level ++ presence [rate.isSome, preset.isSome, delay.isSome]
      ++ optField u8 rate ++ optField uIndex preset ++ optField u16 delay
  | .set i z level rate preset .keep =>
    u8 1 ++ uNumber i ++ uNumber z ++ presence [level.isSome, rate.isSome, preset.isSome, false, false]
      ++ optField s16 level ++ optField u8 rate ++ optField uIndex preset
  | .set i z level rate preset .geometric =>
    u8 1 ++ uNumber i ++ uNumber z ++ presence [level.isSome, rate.isSome, preset.isSome, false, true]
      ++ optField s16 level ++ optField u8 rate ++ optField uIndex preset
  | .set i z level rate preset (.override d) =>
    u8 1 ++ uNumber i ++ uNumber z ++ presence [level.isSome, rate.isSome, preset.isSome, true, false]
      ++ optField s16 level ++ optField u8 rate ++ optField uIndex preset ++ u16 d
  | .retire i z => u8 2 ++ uNumber i ++ uNumber z
  | .zone z on => u8 3 ++ uNumber z ++ uFlag on
  | .notify => u8 4

/-- A defined cue (R75). -/
def cueImage (c : Cue) : List Byte :=
  listField entryImage c.entries ++ presence [c.label.isSome] ++ optField textField c.label

/-- An EQ band (R174): its gain is absent for HIGH-PASS. -/
def bandImage (b : EqBand) : List Byte :=
  u8 (bandKindCode b.kind) ++ u16 b.frequency ++ u8 b.width ++ presence [b.gain.isSome] ++ optField s16 b.gain

/-- The width of a FIXED notch; a DYNAMIC notch lacks one (8.1). -/
def NotchKind.width? : NotchKind → Option Nat
  | .fixed w => some w
  | .dynamic => none

/-- A notch (R163). -/
def notchImage (n : Notch) : List Byte :=
  uIndex n.slot ++ u8 (notchKindCode n.kind) ++ u16 n.bin ++ s16 n.depth ++ u16 n.sinceHit
    ++ presence [(NotchKind.width? n.kind).isSome] ++ optField u8 (NotchKind.width? n.kind)

/-- A zone's ring fields (R163). -/
def ringImage (r : Ring) : List Byte :=
  listField notchImage r.notches ++ u8 r.count ++ s16 r.margin ++ uFlag r.runaway ++ u16 r.sinceConfirm
    ++ presence [r.candidate.isSome] ++ optField u16 r.candidate

/-- The last cue result (R88). The field tables of R193 list no entry index: one byte is given to the first skip's,
DESIGN CHOICE (notes/assumptions/7.md). -/
def resultImage (r : CueResult) : List Byte :=
  uIndex r.cue ++ u16 r.applied ++ u16 r.skipped ++ presence [r.firstSkip.isSome]
    ++ optField (fun f => u8 f.1 ++ [statusCode f.2]) r.firstSkip

/-! ## Frames (10.6, Frame; R185) -/

/-- The byte that begins every frame (R183). -/
def MARK : Byte :=
  0x7E

/-- The 8-bit sum of a list of bytes (R185). -/
def byteSum (bs : List Byte) : Byte :=
  bs.foldr (· + ·) 0

/-- MARK, LENGTH, the bytes LENGTH counts, and the CHECK that makes the 8-bit sum 0 (R185). -/
def frameOf (counted : List Byte) : List Byte :=
  let body := u8 counted.length ++ counted
  MARK :: (body ++ [-byteSum body])

/-- An answer frame as the line carries it: KIND, STATUS and body (10.6). -/
def Answer.frame (a : Answer) : List Byte :=
  frameOf (a.kind :: statusCode a.status :: a.body)

end Sys2Proof.Machine
end

