-- ==== Sys2Proof/WellFormed.lean ====
section
/-! DEFINITION. Which commands can be sent at all: a request whose fields fit the widths of its layout (R193)
and whose counts fit a frame's LENGTH (R183), an event about a line or a zone the part has. The meanings are
total all the same. -/

namespace Sys2Proof

/-- An unsigned one-byte field (R193). -/
abbrev fitsByte (n : Nat) : Bool := n < 256

/-- An unsigned two-byte field (R193). -/
abbrev fitsWord (n : Nat) : Bool := n < 65536

/-- A signed two-byte field, two's complement (R193). -/
abbrev fitsSigned (x : Int) : Bool := -32768 ≤ x && x ≤ 32767

/-- An absent field fits; a present one as its check says. -/
def fitsOpt (f : α → Bool) : Option α → Bool
  | none => true
  | some a => f a

/-- A number of 1 to `n`: a zone, a key. -/
abbrev isNumber (n k : Nat) : Bool := 1 ≤ k && k ≤ n

/-- A character of a text (R193). -/
def isCharacter (b : Byte) : Bool := 0x20 ≤ b.toNat && b.toNat ≤ 0x7E

def RouteName.wellFormed : RouteName → Bool
  | .slot _ => true
  | .key i z => fitsByte i && fitsByte z

def StageFields.wellFormed (f : StageFields) : Bool :=
  fitsOpt fitsSigned f.level && fitsOpt fitsByte f.rate && fitsOpt fitsByte f.preset && fitsOpt fitsWord f.delay

def EntryForm.wellFormed : EntryForm → Bool
  | .place i z l r p d =>
    fitsByte i && fitsByte z && fitsSigned l && fitsOpt fitsByte r && fitsOpt fitsByte p && fitsOpt fitsWord d
  | .set i z l r p d _ =>
    fitsByte i && fitsByte z && fitsOpt fitsSigned l && fitsOpt fitsByte r && fitsOpt fitsByte p
      && fitsOpt fitsWord d
  | .retire i z => fitsByte i && fitsByte z
  | .zone z on => fitsByte z && fitsByte on
  | .notify => true
  | .unknown _ => false

def CueForm.wellFormed : CueForm → Bool
  | .undefine => true
  | .define label entries =>
    label.length < 250 && label.all isCharacter && entries.length < 250 && entries.all EntryForm.wellFormed

def SelectorForm.wellFormed (f : SelectorForm) : Bool :=
  fitsOpt fitsByte f.input && fitsOpt fitsByte f.zone && fitsOpt fitsByte f.precinct && fitsOpt fitsByte f.cls
    && fitsOpt fitsByte f.state && fitsOpt fitsByte f.armed && fitsOpt fitsByte f.cause
    && fitsOpt fitsByte f.limited

def InputFields.wellFormed (f : InputFields) : Bool :=
  fitsOpt fitsByte f.cls && fitsOpt fitsByte f.mode && fitsOpt fitsByte f.precinct && fitsOpt fitsByte f.station
    && fitsOpt fitsSigned f.trim && fitsOpt fitsSigned f.threshold && fitsOpt fitsSigned f.closedAtt
    && fitsOpt fitsWord f.hold

def ZoneFields.wellFormed (f : ZoneFields) : Bool :=
  fitsOpt fitsByte f.home && fitsOpt fitsSigned f.ceiling && fitsOpt fitsSigned f.trim
    && fitsOpt fitsSigned f.duck && fitsOpt fitsWord f.precedence && fitsOpt fitsWord f.standbyDelay
    && fitsOpt fitsByte f.wakeTime && fitsOpt fitsByte f.installLive && fitsOpt fitsByte f.key
    && fitsOpt fitsByte f.cueSafe && fitsOpt fitsByte f.ringWatch && fitsOpt fitsSigned f.ringThreshold
    && fitsOpt fitsByte f.persistence && fitsOpt fitsWord f.release

def BandForm.wellFormed (b : BandForm) : Bool :=
  fitsByte b.kind && fitsWord b.frequency && fitsOpt fitsSigned b.gain && fitsByte b.width

/-- The command can be sent. -/
def Instr.wellFormed : Instr → Bool
  | .placeRoute i z l r p d =>
    fitsByte i && fitsByte z && fitsSigned l && fitsOpt fitsByte r && fitsOpt fitsByte p && fitsOpt fitsWord d
  | .readRoute n | .retireRoute n | .armRoute n | .haltRoute n | .clearRoute n => n.wellFormed
  | .stageRoute n b f => n.wellFormed && fitsByte b && f.wellFormed
  | .writeCue c f => fitsByte c && f.wellFormed
  | .readCue c | .fireCue c => fitsByte c
  | .findRoutes _ c m f => fitsWord c && fitsByte m && f.wellFormed
  | .sweepRoutes _ c a f l =>
    fitsWord c && fitsByte a && f.wellFormed && fitsOpt fitsSigned l && (l.isSome == (a == 4))
  | .setInput i f => fitsByte i && f.wellFormed
  | .readInput i => fitsByte i
  | .setPrecinct p m l => fitsByte p && fitsOpt fitsByte m && fitsOpt fitsByte l
  | .readPrecinct p => fitsByte p
  | .setZone z f => fitsByte z && f.wellFormed
  | .readZone z | .readNotches z | .clearRing z => fitsByte z
  | .zoneLive z on => fitsByte z && fitsByte on
  | .setGeometry st z d => fitsByte st && fitsByte z && fitsWord d
  | .readGeometry st z => fitsByte st && fitsByte z
  | .pinNotch z b d w => fitsByte z && fitsWord b && fitsSigned d && fitsByte w
  | .dropNotch z k => fitsByte z && fitsByte k
  | .setEq p bs => fitsByte p && bs.length < 250 && bs.all BandForm.wellFormed
  | .readEq p => fitsByte p
  | .setClock k => fitsByte k
  | .unknownKindFrame k b => !Machine.knownKinds.contains k && b.length < 250
  | .ampokLineChange z _ => isNumber 24 z
  | .frameResult z _ | .ampStatusDebounced z | .wakeTimerExpiry z | .standbyTimerExpiry z => isNumber 24 z
  | .keyLineChange k _ => isNumber 16 k
  | .keyDebounced k => isNumber 16 k
  | .readCueQueue | .readCueResult | .readClock | .notices | .store | .restart => true
  | .setNoticeMask _ => true
  | .byteReceived _ => true
  | .gapTimeout | .answerSent => true
  | .blockCompletion _ _ => true
  | .analysisFrameEnd => true
  | .houseClockLost | .houseClockReturned | .houseClockLock | .houseClockMove => true
  | .storeWriteDone => true
  | .storeWriteFailed _ | .storeStageTimeout _ => true
  | .rstLLow | .powerLoss | .startUpSequence | .restartSequence => true
  | .samplePeriod _ => true

end Sys2Proof
end

