-- ==== Sys2Proof/Machine/Frames.lean ====
section
/-! DEFINITION. Request bodies as bytes (R193, R194): the reader that the port checks a body with (R185 order 4), and
the writer a controller would use. Fixed fields come first, then a presence byte for the optional fields, then those
present. DESIGN CHOICE where the manual leaves a place open (notes/assumptions/7.md). -/

namespace Sys2Proof.Machine

/-! ## Readers -/

/-- What reads a field from the front of a body; none where the body has not the form. -/
abbrev Reader := StateT (List Byte) Option

namespace Reader

/-- One byte. -/
def byte : Reader Byte := fun bs =>
  match bs with
  | [] => none
  | b :: bs => some (b, bs)

/-- An unsigned one-byte field. -/
def n8 : Reader Nat := do
  let b ← byte
  pure b.toNat

/-- An unsigned two-byte field, most significant byte first. -/
def n16 : Reader Nat := do
  let h ← byte
  let l ← byte
  pure (256 * h.toNat + l.toNat)

/-- A signed two-byte field, two's complement. -/
def i16 : Reader Int := do
  let n ← n16
  pure (if n < 32768 then (n : Int) else (n : Int) - 65536)

/-- The body has the form only where `c` holds. -/
def check (c : Bool) : Reader Unit := fun bs =>
  if c then some ((), bs) else none

/-- A presence byte for `n` optional fields; a bit that names no field is refused. -/
def presenceOf (n : Nat) : Reader Byte := do
  let b ← byte
  check (b.toNat < 2 ^ n)
  pure b

/-- An optional field, read where its presence bit is set. -/
def opt (f : Reader α) (present : Bool) : Reader (Option α) :=
  if present then do
    let a ← f
    pure (some a)
  else pure none

/-- `n` items, one after another. -/
def items (f : Reader α) : Nat → Reader (List α)
  | 0 => pure []
  | n + 1 => do
    let a ← f
    let as ← items f n
    pure (a :: as)

/-- A list: its item count, then its items. -/
def list (f : Reader α) : Reader (List α) := do
  let n ← n8
  items f n

/-- A character of a text. -/
def character : Reader Byte := do
  let b ← byte
  check (isCharacter b)
  pure b

end Reader

open Reader

/-! ## The requests' fields -/

/-- A route name (R193). -/
def readName : Reader RouteName := do
  let form ← byte
  let a ← byte
  let b ← byte
  if form = 0 ∧ b = 0 then pure (.slot a.toFin)
  else do
    check (form = 1)
    pure (.key a.toNat b.toNat)

/-- The body of PLACE-ROUTE (R6). -/
def readPlaceRoute : Reader Instr := do
  let input ← n8
  let zone ← n8
  let level ← i16
  let p ← presenceOf 3
  let rate ← opt n8 (p.getLsbD 0)
  let preset ← opt n8 (p.getLsbD 1)
  let delay ← opt n16 (p.getLsbD 2)
  pure (.placeRoute input zone level rate preset delay)

/-- The body of STAGE-ROUTE (R52). -/
def readStageRoute : Reader Instr := do
  let name ← readName
  let base ← n8
  let p ← presenceOf 5
  let level ← opt i16 (p.getLsbD 0)
  let rate ← opt n8 (p.getLsbD 1)
  let preset ← opt n8 (p.getLsbD 2)
  let delay ← opt n16 (p.getLsbD 3)
  pure (.stageRoute name base
    { level := level, rate := rate, preset := preset, delay := delay, geometric := p.getLsbD 4 })

/-- A PLACE entry after its kind code (R72). -/
def readPlaceEntry : Reader EntryForm := do
  let input ← n8
  let zone ← n8
  let level ← i16
  let p ← presenceOf 3
  let rate ← opt n8 (p.getLsbD 0)
  let preset ← opt n8 (p.getLsbD 1)
  let delay ← opt n16 (p.getLsbD 2)
  pure (.place input zone level rate preset delay)

/-- A SET entry after its kind code (R72). -/
def readSetEntry : Reader EntryForm := do
  let input ← n8
  let zone ← n8
  let p ← presenceOf 5
  let level ← opt i16 (p.getLsbD 0)
  let rate ← opt n8 (p.getLsbD 1)
  let preset ← opt n8 (p.getLsbD 2)
  let delay ← opt n16 (p.getLsbD 3)
  pure (.set input zone level rate preset delay (p.getLsbD 4))

/-- A RETIRE entry after its kind code (R72). -/
def readRetireEntry : Reader EntryForm := do
  let input ← n8
  let zone ← n8
  pure (.retire input zone)

/-- A ZONE entry after its kind code (R72). -/
def readZoneEntry : Reader EntryForm := do
  let zone ← n8
  let on ← n8
  pure (.zone zone on)

/-- A cue entry, by its kind code (R193); another kind has no form. -/
def readEntry : Reader EntryForm := do
  let kind ← n8
  match kind with
  | 0 => readPlaceEntry
  | 1 => readSetEntry
  | 2 => readRetireEntry
  | 3 => readZoneEntry
  | 4 => pure .notify
  | _ => fun _ => none

/-- The body of WRITE-CUE (R73): the undefine marker, or a label and a list of entries. -/
def readWriteCue : Reader Instr := do
  let cue ← n8
  let p ← presenceOf 3
  if p = 1 then pure (.writeCue cue .undefine)
  else do
    check (p = 6)
    let label ← list character
    let entries ← list readEntry
    pure (.writeCue cue (.define label entries))

/-- A value whose presence bit is clear is ignored (R194). -/
def ifPresent (present : Bool) (n : Nat) : Option Nat :=
  if present then some n else none

/-- The selector, 9 bytes (R194). -/
def readSelector : Reader SelectorForm := do
  let p ← byte
  let input ← n8
  let zone ← n8
  let precinct ← n8
  let cls ← n8
  let state ← n8
  let armed ← n8
  let cause ← n8
  let limited ← n8
  pure
    { input := ifPresent (p.getLsbD 0) input
      zone := ifPresent (p.getLsbD 1) zone
      precinct := ifPresent (p.getLsbD 2) precinct
      cls := ifPresent (p.getLsbD 3) cls
      state := ifPresent (p.getLsbD 4) state
      armed := ifPresent (p.getLsbD 5) armed
      cause := ifPresent (p.getLsbD 6) cause
      limited := ifPresent (p.getLsbD 7) limited }

/-- The body of FIND-ROUTES, 13 bytes (R194). -/
def readFindRoutes : Reader Instr := do
  let start ← byte
  let count ← n16
  let mode ← n8
  let sel ← readSelector
  pure (.findRoutes start.toFin count mode sel)

/-- The body of SWEEP-ROUTES, 13 bytes, or 15 for LEVEL (R194). -/
def readSweepRoutes : Reader Instr := do
  let start ← byte
  let count ← n16
  let action ← n8
  let sel ← readSelector
  let level ← opt i16 (action == 4)
  pure (.sweepRoutes start.toFin count action sel level)

/-- The body of SET-INPUT (R116). -/
def readSetInput : Reader Instr := do
  let input ← n8
  let p ← presenceOf 8
  let cls ← opt n8 (p.getLsbD 0)
  let mode ← opt n8 (p.getLsbD 1)
  let precinct ← opt n8 (p.getLsbD 2)
  let station ← opt n8 (p.getLsbD 3)
  let trim ← opt i16 (p.getLsbD 4)
  let threshold ← opt i16 (p.getLsbD 5)
  let closedAtt ← opt i16 (p.getLsbD 6)
  let hold ← opt n16 (p.getLsbD 7)
  pure (.setInput input
    { cls := cls, mode := mode, precinct := precinct, station := station, trim := trim, threshold := threshold
      closedAtt := closedAtt, hold := hold })

/-- The body of SET-PRECINCT (R122). -/
def readSetPrecinct : Reader Instr := do
  let precinct ← n8
  let p ← presenceOf 2
  let maxnom ← opt n8 (p.getLsbD 0)
  let lastOn ← opt n8 (p.getLsbD 1)
  pure (.setPrecinct precinct maxnom lastOn)

/-- The body of SET-ZONE (R144), with its two presence bytes: the high one first, bit 0 of the low one for the first
optional field. -/
def readSetZone : Reader Instr := do
  let zone ← n8
  let q ← byte
  let p ← byte
  let home ← opt n8 (p.getLsbD 0)
  let listen ← opt byte (p.getLsbD 1)
  let ceiling ← opt i16 (p.getLsbD 2)
  let trim ← opt i16 (p.getLsbD 3)
  let duck ← opt i16 (p.getLsbD 4)
  let precedence ← opt n16 (p.getLsbD 5)
  let standbyDelay ← opt n16 (p.getLsbD 6)
  let wakeTime ← opt n8 (p.getLsbD 7)
  let installLive ← opt n8 (q.getLsbD 0)
  let key ← opt n8 (q.getLsbD 1)
  let cueSafe ← opt n8 (q.getLsbD 3)
  let ringWatch ← opt n8 (q.getLsbD 4)
  let ringThreshold ← opt i16 (q.getLsbD 5)
  let persistence ← opt n8 (q.getLsbD 6)
  let release ← opt n16 (q.getLsbD 7)
  pure (.setZone zone
    { home := home, listen := listen, ceiling := ceiling, trim := trim, duck := duck, precedence := precedence
      standbyDelay := standbyDelay, wakeTime := wakeTime, installLive := installLive, key := key
      noKey := q.getLsbD 2, cueSafe := cueSafe, ringWatch := ringWatch, ringThreshold := ringThreshold
      persistence := persistence, release := release })

/-- A band of SET-EQ (R171). -/
def readBand : Reader BandForm := do
  let kind ← n8
  let frequency ← n16
  let width ← n8
  let p ← presenceOf 1
  let gain ← opt i16 (p.getLsbD 0)
  pure { kind := kind, frequency := frequency, gain := gain, width := width }

/-! ## One, two and more fixed fields -/

/-- A body of one unsigned byte. -/
def readOne (f : Nat → Instr) : Reader Instr := do
  let a ← n8
  pure (f a)

/-- A body of two unsigned bytes. -/
def readTwo (f : Nat → Nat → Instr) : Reader Instr := do
  let a ← n8
  let b ← n8
  pure (f a b)

/-- A body that is a route name. -/
def readNamed (f : RouteName → Instr) : Reader Instr := do
  let n ← readName
  pure (f n)

/-- The body of SET-GEOMETRY (R148). -/
def readSetGeometry : Reader Instr := do
  let station ← n8
  let zone ← n8
  let distance ← n16
  pure (.setGeometry station zone distance)

/-- The body of PIN-NOTCH (R161). -/
def readPinNotch : Reader Instr := do
  let zone ← n8
  let bin ← n16
  let depth ← i16
  let width ← n8
  pure (.pinNotch zone bin depth width)

/-- The body of SET-EQ (R173). -/
def readSetEq : Reader Instr := do
  let preset ← n8
  let bands ← list readBand
  pure (.setEq preset bands)

/-- The body of SET-NOTICE-MASK: a notice word (10.6). -/
def readSetNoticeMask : Reader Instr := do
  let h ← byte
  let l ← byte
  pure (.setNoticeMask (h ++ l))

/-! ## The KIND table (10.6) -/

/-- What reads the body of each KIND of the table; no other KIND is known. -/
def bodyReaders : List (Byte × Reader Instr) :=
  [(Kind.placeRoute, readPlaceRoute), (Kind.readRoute, readNamed .readRoute),
   (Kind.retireRoute, readNamed .retireRoute), (Kind.stageRoute, readStageRoute),
   (Kind.armRoute, readNamed .armRoute), (Kind.haltRoute, readNamed .haltRoute),
   (Kind.clearRoute, readNamed .clearRoute), (Kind.writeCue, readWriteCue), (Kind.readCue, readOne .readCue),
   (Kind.fireCue, readOne .fireCue), (Kind.readCueQueue, pure .readCueQueue),
   (Kind.readCueResult, pure .readCueResult), (Kind.findRoutes, readFindRoutes),
   (Kind.sweepRoutes, readSweepRoutes), (Kind.setInput, readSetInput), (Kind.readInput, readOne .readInput),
   (Kind.setPrecinct, readSetPrecinct), (Kind.readPrecinct, readOne .readPrecinct), (Kind.setZone, readSetZone),
   (Kind.readZone, readOne .readZone), (Kind.zoneLive, readTwo .zoneLive), (Kind.setGeometry, readSetGeometry),
   (Kind.readGeometry, readTwo .readGeometry), (Kind.pinNotch, readPinNotch), (Kind.dropNotch, readTwo .dropNotch),
   (Kind.readNotches, readOne .readNotches), (Kind.clearRing, readOne .clearRing), (Kind.setEq, readSetEq),
   (Kind.readEq, readOne .readEq), (Kind.setClock, readOne .setClock), (Kind.readClock, pure .readClock),
   (Kind.notices, pure .notices), (Kind.setNoticeMask, readSetNoticeMask), (Kind.store, pure .store),
   (Kind.restart, pure .restart)]

/-- The request that a KIND and a body spell; none where the body has not a length and form the layout allows
(R185 order 4). -/
def parseBody (kind : Byte) (body : List Byte) : Option Instr :=
  match bodyReaders.lookup kind with
  | none => none
  | some f =>
    match f body with
    | some (i, []) => some i
    | some (_, _ :: _) => none
    | none => none

/-! ## Writing a request -/

/-- A route name (R193). -/
def nameBytes : RouteName → List Byte
  | .slot k => u8 0 ++ uIndex k ++ u8 0
  | .key i z => u8 1 ++ u8 i ++ u8 z

/-- A cue entry as WRITE-CUE carries it (R193). -/
def entryBytes : EntryForm → List Byte
  | .place i z level rate preset delay =>
    u8 0 ++ u8 i ++ u8 z ++ s16 level ++ presence [rate.isSome, preset.isSome, delay.isSome] ++ optField u8 rate
      ++ optField u8 preset ++ optField u16 delay
  | .set i z level rate preset delay geometric =>
    u8 1 ++ u8 i ++ u8 z ++ presence [level.isSome, rate.isSome, preset.isSome, delay.isSome, geometric]
      ++ optField s16 level ++ optField u8 rate ++ optField u8 preset ++ optField u16 delay
  | .retire i z => u8 2 ++ u8 i ++ u8 z
  | .zone z on => u8 3 ++ u8 z ++ u8 on
  | .notify => u8 4
  | .unknown kind => u8 kind

/-- The selector, its absent values written as 0 (R194). -/
def selectorBytes (f : SelectorForm) : List Byte :=
  presence
      [f.input.isSome, f.zone.isSome, f.precinct.isSome, f.cls.isSome, f.state.isSome, f.armed.isSome,
       f.cause.isSome, f.limited.isSome]
    ++ u8 (f.input.getD 0) ++ u8 (f.zone.getD 0) ++ u8 (f.precinct.getD 0) ++ u8 (f.cls.getD 0)
    ++ u8 (f.state.getD 0) ++ u8 (f.armed.getD 0) ++ u8 (f.cause.getD 0) ++ u8 (f.limited.getD 0)

/-- A band of SET-EQ (R171). -/
def bandBytes (b : BandForm) : List Byte :=
  u8 b.kind ++ u16 b.frequency ++ u8 b.width ++ presence [b.gain.isSome] ++ optField s16 b.gain

/-- The optional fields of SET-ZONE with their two presence bytes (R144). -/
def zoneFieldBytes (f : ZoneFields) : List Byte :=
  presence
      [f.installLive.isSome, f.key.isSome, f.noKey, f.cueSafe.isSome, f.ringWatch.isSome, f.ringThreshold.isSome,
       f.persistence.isSome, f.release.isSome]
    ++ presence
      [f.home.isSome, f.listen.isSome, f.ceiling.isSome, f.trim.isSome, f.duck.isSome, f.precedence.isSome,
       f.standbyDelay.isSome, f.wakeTime.isSome]
    ++ optField u8 f.home ++ optField (fun b => [b]) f.listen ++ optField s16 f.ceiling ++ optField s16 f.trim
    ++ optField s16 f.duck ++ optField u16 f.precedence ++ optField u16 f.standbyDelay ++ optField u8 f.wakeTime
    ++ optField u8 f.installLive ++ optField u8 f.key ++ optField u8 f.cueSafe ++ optField u8 f.ringWatch
    ++ optField s16 f.ringThreshold ++ optField u8 f.persistence ++ optField u16 f.release

/-- The KIND and the body that carry a request; none for an event, which no frame carries. -/
def requestBody : Instr → Option (Byte × List Byte)
  | .placeRoute i z level rate preset delay =>
    some (Kind.placeRoute,
      u8 i ++ u8 z ++ s16 level ++ presence [rate.isSome, preset.isSome, delay.isSome] ++ optField u8 rate
        ++ optField u8 preset ++ optField u16 delay)
  | .readRoute n => some (Kind.readRoute, nameBytes n)
  | .retireRoute n => some (Kind.retireRoute, nameBytes n)
  | .stageRoute n base f =>
    some (Kind.stageRoute,
      nameBytes n ++ u8 base
        ++ presence [f.level.isSome, f.rate.isSome, f.preset.isSome, f.delay.isSome, f.geometric]
        ++ optField s16 f.level ++ optField u8 f.rate ++ optField u8 f.preset ++ optField u16 f.delay)
  | .armRoute n => some (Kind.armRoute, nameBytes n)
  | .haltRoute n => some (Kind.haltRoute, nameBytes n)
  | .clearRoute n => some (Kind.clearRoute, nameBytes n)
  | .writeCue c .undefine => some (Kind.writeCue, u8 c ++ presence [true, false, false])
  | .writeCue c (.define label entries) =>
    some (Kind.writeCue,
      u8 c ++ presence [false, true, true] ++ textField label ++ listField entryBytes entries)
  | .readCue c => some (Kind.readCue, u8 c)
  | .fireCue c => some (Kind.fireCue, u8 c)
  | .readCueQueue => some (Kind.readCueQueue, [])
  | .readCueResult => some (Kind.readCueResult, [])
  | .findRoutes k c m f => some (Kind.findRoutes, uIndex k ++ u16 c ++ u8 m ++ selectorBytes f)
  | .sweepRoutes k c a f level =>
    some (Kind.sweepRoutes, uIndex k ++ u16 c ++ u8 a ++ selectorBytes f ++ optField s16 level)
  | .setInput i f =>
    some (Kind.setInput,
      u8 i
        ++ presence
          [f.cls.isSome, f.mode.isSome, f.precinct.isSome, f.station.isSome, f.trim.isSome, f.threshold.isSome,
           f.closedAtt.isSome, f.hold.isSome]
        ++ optField u8 f.cls ++ optField u8 f.mode ++ optField u8 f.precinct ++ optField u8 f.station
        ++ optField s16 f.trim ++ optField s16 f.threshold ++ optField s16 f.closedAtt ++ optField u16 f.hold)
  | .readInput i => some (Kind.readInput, u8 i)
  | .setPrecinct p maxnom lastOn =>
    some (Kind.setPrecinct,
      u8 p ++ presence [maxnom.isSome, lastOn.isSome] ++ optField u8 maxnom ++ optField u8 lastOn)
  | .readPrecinct p => some (Kind.readPrecinct, u8 p)
  | .setZone z f => some (Kind.setZone, u8 z ++ zoneFieldBytes f)
  | .readZone z => some (Kind.readZone, u8 z)
  | .zoneLive z on => some (Kind.zoneLive, u8 z ++ u8 on)
  | .setGeometry st z d => some (Kind.setGeometry, u8 st ++ u8 z ++ u16 d)
  | .readGeometry st z => some (Kind.readGeometry, u8 st ++ u8 z)
  | .pinNotch z b d w => some (Kind.pinNotch, u8 z ++ u16 b ++ s16 d ++ u8 w)
  | .dropNotch z k => some (Kind.dropNotch, u8 z ++ u8 k)
  | .readNotches z => some (Kind.readNotches, u8 z)
  | .clearRing z => some (Kind.clearRing, u8 z)
  | .setEq p bands => some (Kind.setEq, u8 p ++ listField bandBytes bands)
  | .readEq p => some (Kind.readEq, u8 p)
  | .setClock k => some (Kind.setClock, u8 k)
  | .readClock => some (Kind.readClock, [])
  | .notices => some (Kind.notices, [])
  | .setNoticeMask w => some (Kind.setNoticeMask, u16 w.toNat)
  | .store => some (Kind.store, [])
  | .restart => some (Kind.restart, [])
  | .unknownKindFrame _ _ | .byteReceived _ | .gapTimeout | .answerSent | .blockCompletion _ _
  | .analysisFrameEnd | .frameResult _ _ | .ampokLineChange _ _ | .ampStatusDebounced _ | .keyLineChange _ _
  | .keyDebounced _ | .wakeTimerExpiry _ | .standbyTimerExpiry _ | .houseClockLost | .houseClockReturned
  | .houseClockLock | .houseClockMove | .storeWriteDone | .storeWriteFailed _ | .storeStageTimeout _ | .rstLLow
  | .powerLoss | .startUpSequence | .restartSequence | .samplePeriod _ => none

end Sys2Proof.Machine
end

