-- ==== Sys2Proof/Machine/Ops.lean ====
section
/-! DEFINITION. The named operations every command is written with: reading and writing the state's records, due
delays and dips, retiring, halting, releasing, staging, arming and placing routes, handing answers to the
transmitter, and taking a request. -/

namespace Sys2Proof.Machine

/-! ## Reading the state -/

def State.inputSettings (s : State) (i : InputIx) : InputSettings :=
  s.store.working.inputs.get i

def State.precinctSettings (s : State) (p : PrecinctIx) : PrecinctSettings :=
  s.store.working.precincts.get p

def State.zoneSettings (s : State) (z : ZoneIx) : ZoneSettings :=
  s.store.working.zones.get z

def State.zoneLive (s : State) (z : ZoneIx) : ZoneLive :=
  s.power.zones.get z

def State.ringOf (s : State) (z : ZoneIx) : Ring :=
  s.ring.zones.get z

def State.route? (s : State) (k : SlotIx) : Option Route :=
  s.engine.table.get k

/-! ## Writing the state -/

def State.setSlot (s : State) (k : SlotIx) (c : Option Route) : State :=
  { s with engine := { s.engine with table := s.engine.table.set k c } }

/-- Every route of the table takes `f` of itself; FREE slots stay FREE. -/
def State.mapRoutes (f : Route → Route) (s : State) : State :=
  { s with engine := { s.engine with table := s.engine.table.map (Option.map f) } }

def State.setWorking (s : State) (w : WorkingCopy) : State :=
  { s with store := { s.store with working := w } }

def State.setInputSettings (s : State) (i : InputIx) (v : InputSettings) : State :=
  s.setWorking { s.store.working with inputs := s.store.working.inputs.set i v }

def State.setPrecinctSettings (s : State) (p : PrecinctIx) (v : PrecinctSettings) : State :=
  s.setWorking { s.store.working with precincts := s.store.working.precincts.set p v }

def State.setZoneSettings (s : State) (z : ZoneIx) (v : ZoneSettings) : State :=
  s.setWorking { s.store.working with zones := s.store.working.zones.set z v }

def State.setZoneLive (s : State) (z : ZoneIx) (v : ZoneLive) : State :=
  { s with power := { s.power with zones := s.power.zones.set z v } }

def State.setRing (s : State) (z : ZoneIx) (v : Ring) : State :=
  { s with ring := { s.ring with zones := s.ring.zones.set z v } }

def State.setFrame (s : State) (z : ZoneIx) (v : ZoneFrame) : State :=
  { s with ring := { s.ring with frames := s.ring.frames.set z v } }

def State.setGates (s : State) (g : GateUnit) : State :=
  { s with gates := g }

def State.setSignal (s : State) (g : SignalEngine) : State :=
  { s with signal := g }

def State.setEngine (s : State) (e : RouteEngine) : State :=
  { s with engine := e }

def State.setPort (s : State) (p : Port) : State :=
  { s with port := p }

def State.setStore (s : State) (st : Store) : State :=
  { s with store := st }

/-! ## Delays (2.7, 1.5) -/

/-- The geometric delay of a distance in centimetres and a precedence in tenths of a millisecond (R48). -/
def geometricDelay (d p : Nat) : Nat :=
  (d * 480 + 171) / 343 + (24 * p + 2) / 5

/-- The geometric delay of an input's station and a zone, as the working copy holds them (R48). -/
def State.geometricDelayOf (s : State) (i : InputIx) (z : ZoneIx) : Nat :=
  geometricDelay ((s.store.working.geometry.get (s.inputSettings i).station).get z) (s.zoneSettings z).precedence

/-- The due delay of a route whose live bank is `b` (R10, R49). -/
def State.dueDelay (s : State) (i : InputIx) (z : ZoneIx) (b : Bank) : Nat :=
  b.delay.getD (s.geometricDelayOf i z)

/-- The due delay of a route (R10). -/
def State.dueOf (s : State) (r : Route) : Nat :=
  s.dueDelay r.input r.zone r.live

/-- A change of due delay reaches a route: a STEADY or RAMPING route whose delay changes enters DIPPING (R11), a
DIPPING route takes the new pending delay (R13), the others do not act on it when it arrives (R14). -/
def retap (due : Nat) (r : Route) : Route :=
  match r.state with
  | .steady | .ramping => if due = r.delay then r else { r with state := .dipping due }
  | .dipping _ => { r with state := .dipping due }
  | .retiring | .halted _ => r

/-- An installation edit reaches the geometric routes that `concerns` picks out (R10). -/
def State.retapWhere (concerns : Route → Bool) (s : State) : State :=
  s.mapRoutes fun r => if r.live.delay = none ∧ concerns r then retap (s.dueOf r) r else r

/-! ## Retiring, halting, releasing (1.6, 1.7, 3.7) -/

/-- A retirement reaches a route (R15): it becomes RETIRING, unarmed, its pending delay and halt cause gone. -/
def retire (r : Route) : Route :=
  match r.state with
  | .retiring => r
  | .steady | .ramping | .dipping _ | .halted _ => { r with state := .retiring, armed := false }

/-- A halt reaches a route (R19): STEADY, RAMPING and DIPPING accept it. -/
def halt (c : HaltCause) (r : Route) : Route :=
  match r.state with
  | .steady | .ramping | .dipping _ => { r with state := .halted c, armed := false }
  | .retiring | .halted _ => r

/-- A zone's halt, over every occupied slot of the zone (R21). -/
def State.haltZone (z : ZoneIx) (c : HaltCause) (s : State) : State :=
  s.mapRoutes fun r => if r.zone = z then halt c r else r

/-- A HALTED route is released: RAMPING, or DIPPING to its due delay (R14, R67). -/
def release (due : Nat) (r : Route) : Route :=
  { r with state := if due = r.delay then .ramping else .dipping due }

/-- How many routes `p` picks out that are not already RETIRING: the routes a retirement moves (R18). -/
def State.retiredCount (p : Route → Bool) (s : State) : Nat :=
  s.engine.table.count fun c =>
    match c with
    | some r => p r && r.state ≠ .retiring
    | none => false

/-- Every route that `p` picks out is retired, as one event (R18). -/
def State.retireWhere (p : Route → Bool) (s : State) : State :=
  s.mapRoutes fun r => if p r then retire r else r

/-! ## Staging and arming (3.2, 3.3) -/

/-- The fields carried replace the same fields of a bank (R54). -/
def editBank (b : Bank) (level : Option Int) (rate : Option Nat) (preset : Option PresetIx) (delay : DelayEdit) :
    Bank :=
  { level := level.getD b.level
    rate := rate.getD b.rate
    preset := preset.getD b.preset
    delay :=
      match delay with
      | .keep => b.delay
      | .geometric => none
      | .override d => some d }

/-- Why an ARM-ROUTE would refuse an unarmed route (R56, orders 4 to 6). -/
def armRefusal (r : Route) : Option Status :=
  match r.state with
  | .retiring => some .gone
  | .halted _ => some .halted
  | .dipping _ => some .busy
  | .steady | .ramping => none

/-- Why staging and arming as one act would refuse a route (R82 orders 2 to 5, R100): RETIRING, armed, HALTED,
DIPPING. -/
def stageArmRefusal (r : Route) : Option Status :=
  match r.state, r.armed with
  | .retiring, _ => some .gone
  | .steady, true | .ramping, true | .dipping _, true | .halted _, true => some .armed
  | .halted _, false => some .halted
  | .dipping _, false => some .busy
  | .steady, false | .ramping, false => none

/-- A delay edit with its override clamped (R54). -/
def clampEdit : DelayEdit → DelayEdit
  | .keep => .keep
  | .geometric => .geometric
  | .override d => .override (clampDelay d)

/-- A route is staged as STAGE-ROUTE with base COPY-LIVE stages it, and armed, as one act (R82, R100). -/
def stageArm (level : Option Int) (rate : Option Nat) (preset : Option PresetIx) (delay : DelayEdit) (r : Route) :
    Route :=
  { r with
    staged := editBank r.live (level.map clampLevel) (rate.map clampRate) preset (clampEdit delay)
    armed := true }

/-! ## The table (1.1, 1.4) -/

/-- Whether a cell holds the record of a key. -/
def holdsKey (i : InputIx) (z : ZoneIx) : Option Route → Bool
  | some r => r.input = i && r.zone = z
  | none => false

/-- The slot that holds a key, if any (R2, R3). -/
def State.slotOfKey? (s : State) (i : InputIx) (z : ZoneIx) : Option SlotIx :=
  s.engine.table.first? (holdsKey i z)

/-- The lowest-numbered FREE slot (R2). -/
def State.lowestFree? (s : State) : Option SlotIx :=
  s.engine.table.first? Option.isNone

/-- The record a placement makes (R8): silent, with its due delay taken at once. -/
def State.newRoute (s : State) (i : InputIx) (z : ZoneIx) (b : Bank) : Route where
  input := i
  zone := z
  state := .ramping
  armed := false
  flip := false
  live := b
  staged := b
  current := OFF
  target := OFF
  delay := s.dueDelay i z b
  limited := false

/-- A route is made in a slot (R8), its filter memory set to silence (R172). -/
def State.placeAt (s : State) (k : SlotIx) (i : InputIx) (z : ZoneIx) (b : Bank) : State :=
  { s.setSlot k (some (s.newRoute i z b)) with
    signal := { s.signal with eqMemory := s.signal.eqMemory.set k [] } }

/-- The zone's part of a placement's checks, after ABSENT (R7 checks 3 to 5; R81 orders 1 to 3). -/
def State.zoneRefusal (s : State) (i : InputIx) (z : ZoneIx) : Option Status :=
  if (s.zoneLive z).power = .fault then some .fault
  else if (s.ringOf z).runaway then some .runaway
  else if !listens (s.zoneSettings z).listen (s.inputSettings i).precinct then some .precinct
  else none

/-! ## Gates as reported (R106) -/

/-- The gate state an input reports: the machine's for AUTO, OPEN for FIXED, CLOSED for MUTED (R106). -/
def State.gateOf (s : State) (i : InputIx) : GateState :=
  match (s.inputSettings i).mode with
  | .auto => (s.gates.inputs.get i).gate
  | .fixed => .opened
  | .muted => .closed

/-- The open list of an input's precinct. -/
def State.listOf (s : State) (p : PrecinctIx) : List InputIx :=
  s.gates.lists.get p

/-! ## Answers (10.3) -/

/-- The port begins the first answer waiting if it is hunting and its driver is free (R181). -/
def Port.beginAnswer (p : Port) : Port :=
  match p.phase, p.answers with
  | .hunting, _ :: _ => { p with driver := true }
  | .hunting, [] => p
  | .collecting, _ | .discarding, _ => p

/-- An answer is handed to the transmitter, behind those already waiting (R187). -/
def State.hand (s : State) (a : Answer) : State :=
  s.setPort ({ s.port with answers := s.port.answers ++ [a] } : Port).beginAnswer

/-- What an owner answers: a status and a body, or nothing yet for an accepted scan (R186). -/
abbrev Reply := Option (Status × List Byte)

/-- An answer with no body. -/
def plain (st : Status) : Reply :=
  some (st, [])

/-- A request that has passed the framing checks reaches the port (R185 order 2, R186): BUSY while a request is in
progress; else the owner takes it and its answer is handed on, or an accepted scan stays in progress. -/
def takeRequest (kind : Byte) (owner : State → State × Reply) (s : State) : State :=
  match s.port.inProgress with
  | some _ => s.hand { kind := kind, status := .busy, body := [] }
  | none =>
    match owner s with
    | (t, some (st, body)) => t.hand { kind := kind, status := st, body := body }
    | (t, none) => t.setPort { t.port with inProgress := some { kind := kind, scan := true } }

/-- A step that only a running part takes (R200). -/
def whenRunning (f : State → State) (s : State) : State :=
  match s.run with
  | .running => f s
  | .off | .held => s

/-- Whether a frame that arrives now reaches the port whole: it is hunting, and its driver is released, so that it
receives (R181, R183). -/
def Port.listening (p : Port) : Bool :=
  match p.phase with
  | .hunting => !p.driver
  | .collecting | .discarding => false

/-- A frame arrives at a running part; one that the port does not receive is lost (R181; notes/assumptions/8.md). -/
def onFrame (f : State → State) (s : State) : State :=
  whenRunning (fun s => if s.port.listening then f s else s) s

/-- A request arrives at a running part. -/
def onRequest (kind : Byte) (owner : State → State × Reply) (s : State) : State :=
  onFrame (takeRequest kind owner) s

/-- The route a request names (R3): RANGE for a key out of range, NO-ROUTE for a FREE slot or a key held by no
record. -/
def State.findRoute (s : State) : RouteName → Except Status (SlotIx × Route)
  | .slot k =>
    match s.route? k with
    | some r => .ok (k, r)
    | none => .error .noRoute
  | .key i z =>
    match number? 32 i, number? 24 z with
    | some i, some z =>
      match s.slotOfKey? i z with
      | some k =>
        match s.route? k with
        | some r => .ok (k, r)
        | none => .error .noRoute
      | none => .error .noRoute
    | _, _ => .error .range

/-- A request about one route acts on it, or answers why it names none (R3). -/
def onRoute (name : RouteName) (act : SlotIx → Route → State → State × Reply) (s : State) : State × Reply :=
  match s.findRoute name with
  | .ok (k, r) => act k r s
  | .error st => (s, plain st)

end Sys2Proof.Machine
end

