-- ==== Sys2Proof/Machine/Gain.lean ====
section
/-! DEFINITION. Gain and delay arithmetic (chapter 2): target gain and its terms, the ramp, demand, coefficients,
rounding and block peaks. -/

namespace Sys2Proof.Machine

/-! ## The target gain (2.2) -/

/-- NOMTAB (R32), with 0 for an empty list. -/
def nomtab (n : Nat) : Int :=
  [0, 0, 12, 19, 24, 28, 31, 34, 36, 38, 40, 42, 43, 45, 46, 47, 48].getD n 48

/-- The NOM term N (R32): the length of the open list of an AUTO input's precinct, charged by NOMTAB. -/
def State.nomTerm (s : State) (i : InputIx) : Int :=
  match (s.inputSettings i).mode with
  | .auto => nomtab (s.listOf (s.inputSettings i).precinct).length
  | .fixed | .muted => 0

/-- The gate term G (R33): the closed attenuation of an AUTO input whose gate is CLOSED. -/
def State.gateTerm (s : State) (i : InputIx) : Int :=
  match (s.inputSettings i).mode, s.gateOf i with
  | .auto, .closed => (s.inputSettings i).closedAtt
  | .auto, .opened | .auto, .hold | .fixed, _ | .muted, _ => 0

/-- Whether a route's state lets it sound as an announcement (R35). -/
def soundingState : RouteState → Bool
  | .steady | .ramping => true
  | .dipping _ | .retiring | .halted _ => false

/-- Whether a route qualifies as an announcement in its zone (R35). -/
def State.announces (s : State) (r : Route) : Bool :=
  (s.inputSettings r.input).cls = .announce && s.gateOf r.input ≠ .closed && soundingState r.state
    && OFF < r.live.level

/-- Whether some route into a zone qualifies as an announcement (R34, R35). -/
def State.announcedIn (s : State) (z : ZoneIx) : Bool :=
  s.engine.table.any fun c =>
    match c with
    | some r => r.zone = z && s.announces r
    | none => false

/-- The duck term D (R34): the zone's duck depth, once, for a route that is not ANNOUNCE. A qualifying route is
ANNOUNCE, so for such a route every qualifying route is another one. -/
def State.duckTerm (s : State) (r : Route) : Int :=
  if (s.inputSettings r.input).cls = .announce then 0
  else if s.announcedIn r.zone then (s.zoneSettings r.zone).duck
  else 0

/-- The raw gain L + T + Z − N − G − D − M (R30). -/
def State.rawGain (s : State) (r : Route) : Int :=
  r.live.level + (s.inputSettings r.input).trim + (s.zoneSettings r.zone).trim - s.nomTerm r.input
    - s.gateTerm r.input - s.duckTerm r - (s.ringOf r.zone).margin

/-- Whether a route's state forces its target to OFF (R29). -/
def forcedOff : RouteState → Bool
  | .halted _ | .retiring | .dipping _ => true
  | .steady | .ramping => false

/-- The OFF conditions (R29). -/
def State.offCondition (s : State) (r : Route) : Bool :=
  forcedOff r.state || r.live.level = OFF || (s.inputSettings r.input).mode = .muted
    || !(s.zoneLive r.zone).live || (s.zoneLive r.zone).power ≠ .active

/-- The raw gain between the floor and the ceiling, and LIMITED (R30). -/
def limitGain (raw ceiling : Int) : Int × Bool :=
  if ceiling < raw then (ceiling, true)
  else if raw < OFF then (OFF, false)
  else (raw, false)

/-- The target gain and LIMITED of a route (R29, R30). -/
def State.evalTarget (s : State) (r : Route) : Int × Bool :=
  if s.offCondition r then (OFF, false) else limitGain (s.rawGain r) (s.zoneSettings r.zone).ceiling

/-! ## The ramp (2.3) -/

/-- The rate of a route's step (R37). -/
def stepRate (r : Route) : Nat :=
  match r.state with
  | .steady | .ramping | .retiring => r.live.rate
  | .dipping _ | .halted _ => 16

/-- One ramp step from a current toward a target at rate `s` (R38). -/
def rampStep (s : Nat) (current target : Int) : Int :=
  if current = target then current
  else if s = 0 ∨ (target - current).natAbs ≤ s then target
  else if current < target then current + s
  else current - s

/-- Step 4 for one route (R27): its target field and LIMITED taken from `target`, its current stepped, and the
state change the step brings: STEADY or RAMPING (R5), the end of a dip (R12), a HALTED route taking its due delay
(R14), a RETIRING route freeing its slot (R16). -/
def settleRoute (due : Nat) (target : Int × Bool) (r : Route) : Option Route :=
  let now := rampStep (stepRate r) r.current target.1
  let r' := { r with target := target.1, limited := target.2, current := now }
  match r.state with
  | .steady | .ramping => some { r' with state := if now = target.1 then .steady else .ramping }
  | .dipping d => if now = OFF then some { r' with state := .ramping, delay := d } else some r'
  | .halted _ => if now = OFF then some { r' with delay := due } else some r'
  | .retiring => if now = OFF then none else some r'

/-! ## Demand (2.4) -/

/-- Whether a route's state can have demand (R40). -/
def demandState : RouteState → Bool
  | .steady | .ramping | .dipping _ => true
  | .retiring | .halted _ => false

/-- Whether a route has demand (R40). The state `s` gives the values that step 3 read. -/
def State.hasDemand (s : State) (r : Route) : Bool :=
  demandState r.state && (s.zoneLive r.zone).live && (s.inputSettings r.input).mode ≠ .muted
    && OFF < r.live.level && OFF < s.rawGain r

/-- A zone's demand count over the slots of `t` (R41). -/
def State.demandCount (s : State) (t : Table (Option Route) 256) (z : ZoneIx) : Nat :=
  t.count fun c =>
    match c with
    | some r => r.zone = z && s.hasDemand r
    | none => false

/-! ## From gain to sound (2.5) -/

/-- Whether `2c − 1 ≤ 2 × 2,097,152 × 10^(g/80)`, put in whole numbers: `c` is at most the gain coefficient of `g`
(R42). -/
def coeffAtLeast (g : Int) (c : Nat) : Bool :=
  c = 0 || (2 * c - 1) ^ 80 * 10 ^ (-g).toNat ≤ 4194304 ^ 80 * 10 ^ g.toNat

/-- The largest number under `2 ^ k` above `c` that `ok` allows, bit by bit. -/
def searchBits (ok : Nat → Bool) : Nat → Nat → Nat
  | 0, c => c
  | k + 1, c => searchBits ok k (if ok (c + 2 ^ k) then c + 2 ^ k else c)

/-- The gain coefficient (R42): 0 at OFF, else round(2,097,152 × 10^(g/80)), exact halves up. -/
def coefficient (g : Int) : Nat :=
  if g = OFF then 0 else searchBits (coeffAtLeast g) 23 0

/-- A bus sum back on the sample scale, exact halves up (R44). -/
def roundBus (sum : Int) : Int :=
  (sum + 1048576) / 2097152

/-- Saturation to the 24-bit range (R45). -/
def saturate (x : Int) : Int :=
  clampInt (-8388608) 8388607 x

/-! ## Block peaks (2.6) -/

/-- Whether `80·log10(m / 8,388,608)` is at least `−q − 1/2`, put in whole numbers (R46). -/
def peakAtLeast (m q : Nat) : Bool :=
  8388608 ^ 160 ≤ m ^ 160 * 10 ^ (2 * q + 1)

/-- The least `q` from `q` on, of the `k` tried, that the magnitude reaches. -/
def searchPeak (m : Nat) : Nat → Nat → Nat
  | 0, q => q
  | k + 1, q => if peakAtLeast m q then q else searchPeak m k (q + 1)

/-- The block peak of a largest magnitude, in qdB: rounded to the nearest integer and clamped to −480..0 (R46). -/
def blockPeak (m : Nat) : Int :=
  if m = 0 then OFF else -(searchPeak m 480 0 : Nat)

end Sys2Proof.Machine
end

