-- ==== Sys2Proof/Machine/Routes.lean ====
section
/-! DEFINITION. The requests that make, read, change, halt and end one route (chapters 1 and 3). -/

namespace Sys2Proof.Machine

/-! ## PLACE-ROUTE (R6 to R9) -/

/-- The bank a placement's level and optional parts give, after clamping and defaults (R6). -/
def placementBank (level : Int) (rate : Option Nat) (preset : Option PresetIx) (delay : Option Nat) : Bank where
  level := clampLevel level
  rate := clampRate (rate.getD 8)
  preset := preset.getD 0
  delay := delay.map clampDelay

/-- Whether a placement's quantities had to be clamped (R6). -/
def placementClamped (level : Int) (rate delay : Option Nat) : Bool :=
  clampChanges clampLevel (some level) || clampChanges clampRate rate || clampChanges clampDelay delay

/-- The answer to a held key: GONE if its record is RETIRING, else EXISTS, with the slot (R7 check 6). -/
def heldKeyReply (k : SlotIx) (c : Option Route) : Reply :=
  match c with
  | some r => if r.state = .retiring then some (.gone, uIndex k) else some (.exists_, uIndex k)
  | none => some (.exists_, uIndex k)

/-- The route engine takes PLACE-ROUTE: the checks of R7 in order, then the record of R8. -/
def takePlaceRoute (input zone : Nat) (level : Int) (rate preset delay : Option Nat) (s : State) : State × Reply :=
  match number? 32 input, number? 24 zone, optional? (index? 16) preset with
  | some i, some z, some p =>
    if (s.zoneLive z).power = .absent then (s, plain .absent)
    else
      match s.zoneRefusal i z, s.slotOfKey? i z, s.lowestFree? with
      | some st, _, _ => (s, plain st)
      | none, some k, _ => (s, heldKeyReply k (s.route? k))
      | none, none, none => (s, plain .full)
      | none, none, some k =>
        (s.placeAt k i z (placementBank level rate p delay),
          some (okStatus (placementClamped level rate delay), uIndex k))
  | _, _, _ => (s, plain .range)

/-- PLACE_ROUTE (R7). -/
def execPlaceRoute (input zone : Nat) (level : Int) (rate preset delay : Option Nat) (s : State) :
    Host.Outcome State Fault Refusal :=
  .next (onRequest Kind.placeRoute (takePlaceRoute input zone level rate preset delay) s)

/-! ## READ-ROUTE (R23) -/

/-- The record image as the record stands (R23, R194). -/
def takeReadRoute (name : RouteName) : State → State × Reply :=
  onRoute name fun k r s => (s, some (.ok, routeImage k r))

/-- READ_ROUTE (R23). -/
def execReadRoute (name : RouteName) (s : State) : Host.Outcome State Fault Refusal :=
  .next (onRequest Kind.readRoute (takeReadRoute name) s)

/-! ## RETIRE-ROUTE (R17) -/

/-- GONE for a RETIRING route; any other becomes RETIRING (R17). -/
def takeRetireRoute (name : RouteName) : State → State × Reply :=
  onRoute name fun k r s =>
    if r.state = .retiring then (s, plain .gone) else (s.setSlot k (some (retire r)), plain .ok)

/-- RETIRE_ROUTE (R17). -/
def execRetireRoute (name : RouteName) (s : State) : Host.Outcome State Fault Refusal :=
  .next (onRequest Kind.retireRoute (takeRetireRoute name) s)

/-! ## STAGE-ROUTE (R52 to R55) -/

/-- Whether a STAGE-ROUTE's quantities had to be clamped (R53). -/
def stageClamped (f : StageFields) : Bool :=
  clampChanges clampLevel f.level || clampChanges clampRate f.rate || clampChanges clampDelay f.delay

/-- The route with its staged bank written from the base, then from the fields (R54); `keep` is base KEEP. -/
def stage (keep : Bool) (f : StageFields) (preset : Option PresetIx) (delay : DelayEdit) (r : Route) : Route :=
  { r with
    staged :=
      editBank (if keep then r.staged else r.live) (f.level.map clampLevel) (f.rate.map clampRate) preset delay }

/-- The route engine takes STAGE-ROUTE: the checks of R53 in order. -/
def takeStageRoute (name : RouteName) (base : Nat) (f : StageFields) (s : State) : State × Reply :=
  match flag? base, optional? (index? 16) f.preset, delayEdit? f.delay f.geometric with
  | some keep, some p, some d =>
    onRoute name
      (fun k r s =>
        if r.state = .retiring then (s, some (.gone, uIndex k))
        else if r.armed then (s, some (.armed, uIndex k))
        else (s.setSlot k (some (stage keep f p d r)), some (okStatus (stageClamped f), uIndex k)))
      s
  | _, _, _ => (s, plain .range)

/-- STAGE_ROUTE (R53). -/
def execStageRoute (name : RouteName) (base : Nat) (fields : StageFields) (s : State) :
    Host.Outcome State Fault Refusal :=
  .next (onRequest Kind.stageRoute (takeStageRoute name base fields) s)

/-! ## ARM-ROUTE (R56) -/

/-- The route engine takes ARM-ROUTE: an armed route is left as it is in any state; a STEADY or RAMPING route
becomes armed. The answer carries the slot and the flip indicator (R56). -/
def takeArmRoute (name : RouteName) : State → State × Reply :=
  onRoute name fun k r s =>
    if r.armed then (s, some (.ok, uIndex k ++ uFlag r.flip))
    else
      match armRefusal r with
      | some st => (s, some (st, uIndex k ++ uFlag r.flip))
      | none => (s.setSlot k (some { r with armed := true }), some (.ok, uIndex k ++ uFlag r.flip))

/-- ARM_ROUTE (R56). -/
def execArmRoute (name : RouteName) (s : State) : Host.Outcome State Fault Refusal :=
  .next (onRequest Kind.armRoute (takeArmRoute name) s)

/-! ## HALT-ROUTE (R64) -/

/-- The route engine takes HALT-ROUTE: GONE for a RETIRING route; a HALTED route keeps its cause; any other
becomes HALTED with cause CONTROLLER (R64). -/
def takeHaltRoute (name : RouteName) : State → State × Reply :=
  onRoute name fun k r s =>
    if r.state = .retiring then (s, some (.gone, uIndex k))
    else (s.setSlot k (some (halt .controller r)), some (.ok, uIndex k))

/-- HALT_ROUTE (R64). -/
def execHaltRoute (name : RouteName) (s : State) : Host.Outcome State Fault Refusal :=
  .next (onRequest Kind.haltRoute (takeHaltRoute name) s)

/-! ## CLEAR-ROUTE (R66, R67) -/

/-- Whether a route is HALTED. -/
def isHalted : RouteState → Bool
  | .halted _ => true
  | .steady | .ramping | .dipping _ | .retiring => false

/-- CLEAR-ROUTE on a route as it stands: the route after it, or why it is refused (R66 orders 3 to 6). -/
def State.cleared (s : State) (r : Route) : Except Status Route :=
  if isHalted r.state then
    if (s.zoneLive r.zone).power = .fault then .error .fault
    else if (s.ringOf r.zone).runaway then .error .runaway
    else .ok (release (s.dueOf r) r)
  else .ok r

/-- The route engine takes CLEAR-ROUTE (R66). -/
def takeClearRoute (name : RouteName) : State → State × Reply :=
  onRoute name fun k r s =>
    match s.cleared r with
    | .ok r' => (s.setSlot k (some r'), some (.ok, uIndex k))
    | .error st => (s, some (st, uIndex k))

/-- CLEAR_ROUTE (R66). -/
def execClearRoute (name : RouteName) (s : State) : Host.Outcome State Fault Refusal :=
  .next (onRequest Kind.clearRoute (takeClearRoute name) s)

end Sys2Proof.Machine
end

