-- ==== Sys2Proof/Machine/Cues.lean ====
section
/-! DEFINITION. Cues (chapter 4): writing, reading and firing them, the queue, and the take. -/

namespace Sys2Proof.Machine

/-! ## WRITE-CUE and READ-CUE (R73 to R75) -/

def State.setCue (s : State) (c : CueIx) (v : Option Cue) : State :=
  s.setWorking { s.store.working with cues := s.store.working.cues.set c v }

def State.cue? (s : State) (c : CueIx) : Option Cue :=
  s.store.working.cues.get c

/-- A cue written with an empty label lacks one (R71). -/
def storedLabel : List Byte → Option (List Byte)
  | [] => none
  | b :: bs => some (b :: bs)

/-- The cue that a label and entries define, its quantities clamped; none where R73 refuses them RANGE, a label's
characters among its checks (R193). -/
def acceptCue? (label : List Byte) (entries : List EntryForm) : Option Cue :=
  match all? cueEntry? entries with
  | none => none
  | some es =>
    if 12 < label.length ∨ 16 < entries.length ∨ !label.all isCharacter then none
    else some { label := storedLabel label, entries := es }

/-- The installation store takes WRITE-CUE: the checks of R73 in order, a label's characters among them (R193), then
the record replaced whole. -/
def takeWriteCue (cue : Nat) (form : CueForm) (s : State) : State × Reply :=
  match index? 64 cue, form with
  | none, _ => (s, plain .range)
  | some c, .undefine =>
    if c = 0 then (s, plain .range)
    else if c ∈ s.engine.queue then (s, plain .busy)
    else (s.setCue c none, plain .ok)
  | some c, .define label entries =>
    match acceptCue? label entries with
    | none => (s, plain .range)
    | some v =>
      if c ∈ s.engine.queue then (s, plain .busy)
      else (s.setCue c (some v), plain (okStatus (entries.any entryClamped)))

/-- WRITE_CUE (R73). -/
def execWriteCue (cue : Nat) (form : CueForm) (s : State) : Host.Outcome State Fault Refusal :=
  .next (onRequest Kind.writeCue (takeWriteCue cue form) s)

/-- READ-CUE: the label and the entries in their stored order (R75). -/
def takeReadCue (cue : Nat) (s : State) : State × Reply :=
  match index? 64 cue with
  | none => (s, plain .range)
  | some c =>
    match s.cue? c with
    | none => (s, plain .noCue)
    | some v => (s, some (.ok, cueImage v))

/-- READ_CUE (R75). -/
def execReadCue (cue : Nat) (s : State) : Host.Outcome State Fault Refusal :=
  .next (onRequest Kind.readCue (takeReadCue cue) s)

/-! ## The cue queue (R76 to R78) and the last result (R88) -/

/-- The route engine takes FIRE-CUE: the checks of R77, then the number appended; the answer carries the length. -/
def takeFireCue (cue : Nat) (s : State) : State × Reply :=
  match index? 64 cue with
  | none => (s, plain .range)
  | some c =>
    if s.cue? c = none then (s, plain .noCue)
    else if 4 ≤ s.engine.queue.length then (s, plain .full)
    else
      (s.setEngine { s.engine with queue := s.engine.queue ++ [c] },
        some (.ok, u16 (s.engine.queue.length + 1)))

/-- FIRE_CUE (R77). -/
def execFireCue (cue : Nat) (s : State) : Host.Outcome State Fault Refusal :=
  .next (onRequest Kind.fireCue (takeFireCue cue) s)

/-- READ-CUE-QUEUE: the queue's numbers, oldest first (R78). -/
def takeReadCueQueue (s : State) : State × Reply :=
  (s, some (.ok, listField uIndex s.engine.queue))

/-- READ_CUE_QUEUE (R78). -/
def execReadCueQueue (s : State) : Host.Outcome State Fault Refusal :=
  .next (onRequest Kind.readCueQueue takeReadCueQueue s)

/-- READ-CUE-RESULT: the last cue result, or NO-CUE (R88). -/
def takeReadCueResult (s : State) : State × Reply :=
  match s.engine.result with
  | some r => (s, some (.ok, resultImage r))
  | none => (s, plain .noCue)

/-- READ_CUE_RESULT (R88). -/
def execReadCueResult (s : State) : Host.Outcome State Fault Refusal :=
  .next (onRequest Kind.readCueResult takeReadCueResult s)

/-! ## Taking a cue (4.4) -/

/-- A controller-live change that a ZONE entry hands to the zone controller (R85). -/
abbrev Handed := ZoneIx × Bool

/-- Why a cue passes over an entry that names a zone, before any test of its kind (R80). -/
def State.cueZoneRefusal (s : State) (z : ZoneIx) : Option Status :=
  if (s.zoneSettings z).cueSafe then some .safe
  else if (s.zoneLive z).power = .absent then some .absent
  else none

/-- The skip reason for an act that a request refuses GONE: RETIRING (R81, R82). -/
def skipReason : Status → Status
  | .gone => .retiring
  | st => st

/-- SET, or PLACE on a held key: the route in the slot is staged and armed, or the entry skipped (R82). -/
def State.cueRestage (s : State) (k : SlotIx) (edit : Route → Route) : Except Status State :=
  match s.route? k with
  | none => .error .noRoute
  | some r =>
    match stageArmRefusal r with
    | some st => .error (skipReason st)
    | none => .ok (s.setSlot k (some (edit r)))

/-- A PLACE entry whose zone has passed R80 (R81). -/
def State.cuePlace (s : State) (i : InputIx) (z : ZoneIx) (level : Int) (rate : Option Nat)
    (preset : Option PresetIx) (delay : Option Nat) : Except Status State :=
  match s.zoneRefusal i z, s.slotOfKey? i z, s.lowestFree? with
  | some st, _, _ => .error st
  | none, some k, _ =>
    s.cueRestage k (stageArm (some level) rate preset (match delay with | none => .keep | some d => .override d))
  | none, none, none => .error .full
  | none, none, some k => .ok (s.placeAt k i z (placementBank level rate preset delay))

/-- A RETIRE entry whose zone has passed R80 (R84). -/
def State.cueRetire (s : State) (i : InputIx) (z : ZoneIx) : Except Status State :=
  match s.slotOfKey? i z with
  | none => .error .noRoute
  | some k =>
    match s.route? k with
    | none => .error .noRoute
    | some r => if r.state = .retiring then .error .retiring else .ok (s.setSlot k (some (retire r)))

/-- A test of the zone, then the entry's own act (R80). -/
def State.inCueZone (s : State) (z : ZoneIx) (act : Except Status State) : Except Status State :=
  match s.cueZoneRefusal z with
  | some st => .error st
  | none => act

/-- One entry of cue `c` applied, with the change a ZONE entry hands on, or its skip reason (R80 to R86). -/
def State.applyEntry (s : State) (c : CueIx) : CueEntry → Except Status (State × List Handed)
  | .place i z level rate preset delay =>
    (s.inCueZone z (s.cuePlace i z level rate preset delay)).map fun t => (t, [])
  | .set i z level rate preset delay =>
    (s.inCueZone z
        (match s.slotOfKey? i z with
        | none => .error .noRoute
        | some k => s.cueRestage k (stageArm level rate preset delay))).map fun t => (t, [])
  | .retire i z => (s.inCueZone z (s.cueRetire i z)).map fun t => (t, [])
  | .zone z on => (s.inCueZone z (.ok s)).map fun t => (t, [(z, on)])
  | .notify =>
    .ok ((s.setPort { s.port with lastNotify := some c }).raise .notify, [])

/-- How a take stands after some entries: the result so far and the changes handed on (R87, R88). -/
structure TakeSoFar where
  result : CueResult
  handed : List Handed
  deriving DecidableEq, Repr

/-- The entries from index `n` on, in their stored order, each seeing what those before it left (R79, R87). -/
def applyEntries (c : CueIx) : Nat → List CueEntry → State → TakeSoFar → State × TakeSoFar
  | _, [], s, t => (s, t)
  | n, e :: es, s, t =>
    match s.applyEntry c e with
    | .ok (s', hs) =>
      applyEntries c (n + 1) es s'
        { result := { t.result with applied := t.result.applied + 1 }, handed := t.handed ++ hs }
    | .error st =>
      applyEntries c (n + 1) es s
        { result :=
            { t.result with
              skipped := t.result.skipped + 1
              firstSkip := t.result.firstSkip.or (some (n, st)) }
          handed := t.handed }

/-- The entries of a cue as the working copy holds it; an undefined cue has none. -/
def State.entriesOf (s : State) (c : CueIx) : List CueEntry :=
  match s.cue? c with
  | some v => v.entries
  | none => []

/-- The end of a take: the result written, then CUE-DONE raised, and CUE-SKIPPED if an entry was skipped
(R88, R89). -/
def State.endTake (s : State) (r : CueResult) : State :=
  ((s.setEngine { s.engine with result := some r }).raise .cueDone).raiseIf (0 < r.skipped) .cueSkipped

/-- Step 2 of a block completion (R79): the oldest cue of the queue is removed and taken. It gives the
controller-live changes handed to the zone controller, in order. -/
def takeCue (s : State) : State × List Handed :=
  match s.engine.queue with
  | [] => (s, [])
  | c :: rest =>
    let s := s.setEngine { s.engine with queue := rest }
    let (s, t) :=
      applyEntries c 0 (s.entriesOf c) s
        { result := { cue := c, applied := 0, skipped := 0, firstSkip := none }, handed := [] }
    (s.endTake t.result, t.handed)

end Sys2Proof.Machine
end

