-- ==== Sys2Proof/Machine/Inputs.lean ====
section
/-! DEFINITION. Inputs, gates and precincts (chapter 6). -/

namespace Sys2Proof.Machine

/-! ## Leaving an open list -/

/-- The gate machine shut: CLOSED, counter 0, its last block peak kept. -/
def GateLive.shut (g : GateLive) : GateLive :=
  { g with gate := .closed, counter := 0 }

/-- An input's gate is shut. -/
def GateUnit.shutGate (g : GateUnit) (i : InputIx) : GateUnit :=
  { g with inputs := g.inputs.modify i GateLive.shut }

/-- An input leaves a precinct's open list, the members left behind keeping their order (R112). -/
def GateUnit.leaveList (g : GateUnit) (p : PrecinctIx) (i : InputIx) : GateUnit :=
  { g with lists := g.lists.modify p (·.filter (· ≠ i)) }

/-- A member closes: it becomes CLOSED with counter 0 and leaves its list. -/
def GateUnit.closeMember (g : GateUnit) (p : PrecinctIx) (i : InputIx) : GateUnit :=
  (g.shutGate i).leaveList p i

/-! ## The gate unit's work at a block completion (6.2 to 6.4) -/

/-- An AUTO input that is OPEN or HOLD, moved by its new block peak (R109, R110): its gate after the move, and
whether its hold has run out. -/
def moveGate (inst : InputSettings) (g : GateLive) : GateLive × Bool :=
  let low := g.peak < inst.threshold - 12
  match g.gate with
  | .closed => (g, false)
  | .opened => if low then ({ g with gate := .hold, counter := inst.hold }, false) else (g, false)
  | .hold =>
    if low then ({ g with counter := g.counter - 1 }, g.counter ≤ 1)
    else ({ g with gate := .opened, counter := 0 }, false)

/-- The gate machine of an AUTO input; a FIXED or MUTED input has none (R106). -/
def moveInput (inst : InputSettings) (g : GateLive) : GateLive × Bool :=
  match inst.mode with
  | .auto => moveGate inst g
  | .fixed | .muted => (g, false)

/-- Whether an input is a candidate: AUTO, CLOSED when the candidates were fixed, its new block peak at or above its
threshold (R108). -/
def isCandidate (inst : InputSettings) (g : GateLive) : Bool :=
  inst.mode = .auto && g.gate = .closed && inst.threshold ≤ g.peak

/-- The member that LAST-ON keeps: the latest of the list, where the closing of all whose hold has run out would
leave the list empty (R110). -/
def keptByLastOn (lastOn : Bool) (runOut : InputIx → Bool) (list : List InputIx) : Option InputIx :=
  if lastOn && list.all runOut then list.getLast? else none

/-- Step 2 of R107: open and held gates are moved, and those whose hold has run out close, but for the one LAST-ON
keeps in its precinct (R109, R110). -/
def moveGates (w : WorkingCopy) (g : GateUnit) : GateUnit :=
  let moved := Table.zipWith moveInput w.inputs g.inputs
  let runOut := fun i => (moved.get i).2
  let closes := fun i =>
    let p := (w.inputs.get i).precinct
    runOut i && keptByLastOn (w.precincts.get p).lastOn runOut (g.lists.get p) ≠ some i
  { inputs := Table.ofFn fun i => if closes i then (moved.get i).1.shut else (moved.get i).1
    lists := g.lists.map fun l => l.filter fun i => !closes i }

/-- The class number of an input (R105). -/
def classOf (w : WorkingCopy) (i : InputIx) : Nat :=
  classCode (w.inputs.get i).cls

/-- The member of the largest class number, the earliest in the list among those that share it, of those whose class
number is at least `least` (R114, R122). -/
def victim? (w : WorkingCopy) (least : Nat) (list : List InputIx) : Option InputIx :=
  list.foldl
    (fun best i =>
      if classOf w i < least then best
      else
        match best with
        | none => some i
        | some b => if classOf w b < classOf w i then some i else some b)
    none

/-- A candidate joins the back of its precinct's list, OPEN with counter 0 (R114). -/
def GateUnit.joinList (g : GateUnit) (p : PrecinctIx) (i : InputIx) : GateUnit :=
  { inputs := g.inputs.modify i fun l => { l with gate := .opened, counter := 0 }
    lists := g.lists.modify p (· ++ [i]) }

/-- One candidate judged against its precinct's list as it stands: room, a victim, or neither (R114). -/
def tryCandidate (w : WorkingCopy) (g : GateUnit) (i : InputIx) : GateUnit :=
  let p := (w.inputs.get i).precinct
  if (g.lists.get p).length < (w.precincts.get p).maxnom then g.joinList p i
  else
    match victim? w (classOf w i + 1) (g.lists.get p) with
    | some v => (g.closeMember p v).joinList p i
    | none => g

/-- A member that LAST-ON has kept: in HOLD with counter 0 (R110). -/
def GateUnit.isKept (g : GateUnit) (i : InputIx) : Bool :=
  (g.inputs.get i).gate = .hold && (g.inputs.get i).counter = 0

/-- Step 4 of R107 in one precinct: with LAST-ON set, a kept member that is no longer the only one closes (R111). -/
def releaseLastOn (w : WorkingCopy) (g : GateUnit) (p : PrecinctIx) : GateUnit :=
  if (w.precincts.get p).lastOn ∧ 1 < (g.lists.get p).length then
    ((g.lists.get p).filter g.isKept).foldl (fun g i => g.closeMember p i) g
  else g

/-- The gate unit's whole work at a block completion (R107): the peaks, the open and held gates, the admissions in
increasing input number, the LAST-ON releases. -/
def gateWork (peaks : Table Int 32) (w : WorkingCopy) (g : GateUnit) : GateUnit :=
  let g1 := { g with inputs := Table.zipWith (fun pk (l : GateLive) => { l with peak := pk }) peaks g.inputs }
  let candidates := (List.finRange 32).filter fun i => isCandidate (w.inputs.get i) (g1.inputs.get i)
  let g3 := candidates.foldl (tryCandidate w) (moveGates w g1)
  (List.finRange 4).foldl (releaseLastOn w) g3

/-! ## SET-INPUT (R116 to R120) -/

/-- The input's settings with every field the request carries written, quantities clamped (R116); none where an
identifier is out of range. -/
def inputEdit? (f : InputFields) (v : InputSettings) : Option InputSettings :=
  match optional? class? f.cls, optional? mode? f.mode, optional? (number? 4) f.precinct,
      optional? (number? 16) f.station with
  | some c, some m, some p, some st =>
    some
      { cls := c.getD v.cls
        mode := m.getD v.mode
        precinct := p.getD v.precinct
        station := st.getD v.station
        trim := (f.trim.map clampInputTrim).getD v.trim
        threshold := (f.threshold.map clampThreshold).getD v.threshold
        closedAtt := (f.closedAtt.map clampClosedAtt).getD v.closedAtt
        hold := (f.hold.map clampHold).getD v.hold }
  | _, _, _, _ => none

/-- Whether a SET-INPUT's quantities had to be clamped (R116). -/
def inputClamped (f : InputFields) : Bool :=
  clampChanges clampInputTrim f.trim || clampChanges clampThreshold f.threshold
    || clampChanges clampClosedAtt f.closedAtt || clampChanges clampHold f.hold

/-- A change of mode or precinct takes the input off its old precinct's list and shuts its gate (R117, R118); any
other edit leaves the gate unit as it is (R119). -/
def GateUnit.inputEdited (g : GateUnit) (i : InputIx) (old new : InputSettings) : GateUnit :=
  if old.mode = new.mode ∧ old.precinct = new.precinct then g else g.closeMember old.precinct i

/-- Whether a route is one that a change of its input's precinct retires (R18, R118). -/
def State.losesPrecinct (s : State) (i : InputIx) (old new : InputSettings) (r : Route) : Bool :=
  r.input = i && old.precinct ≠ new.precinct && !listens (s.zoneSettings r.zone).listen new.precinct

/-- The effects of a SET-INPUT that passes, as one event (R116 to R119). -/
def State.editInput (s : State) (i : InputIx) (new : InputSettings) : State :=
  let old := s.inputSettings i
  let s := (s.setInputSettings i new).setGates (s.gates.inputEdited i old new)
  let s := s.retireWhere (s.losesPrecinct i old new)
  if old.station = new.station then s else s.retapWhere fun r => r.input = i

/-- The gate unit takes SET-INPUT; the answer carries the number of routes moved into RETIRING (R116). -/
def takeSetInput (input : Nat) (f : InputFields) (s : State) : State × Reply :=
  match number? 32 input with
  | none => (s, plain .range)
  | some i =>
    match inputEdit? f (s.inputSettings i) with
    | none => (s, plain .range)
    | some new =>
      (s.editInput i new,
        some (okStatus (inputClamped f), u16 (s.retiredCount (s.losesPrecinct i (s.inputSettings i) new))))

/-- SET_INPUT (R116). -/
def execSetInput (input : Nat) (fields : InputFields) (s : State) : Host.Outcome State Fault Refusal :=
  .next (onRequest Kind.setInput (takeSetInput input fields) s)

/-! ## READ-INPUT (R121) -/

/-- An input's place in its precinct's open list, from 1 (R121). -/
def placeIn (list : List InputIx) (i : InputIx) : Option Nat :=
  if i ∈ list then some (list.idxOf i + 1) else none

/-- The hold counter an input reports: the machine's for AUTO, 0 otherwise (R106). -/
def State.counterOf (s : State) (i : InputIx) : Nat :=
  match (s.inputSettings i).mode with
  | .auto => (s.gates.inputs.get i).counter
  | .fixed | .muted => 0

/-- The input record with its live fields and its place in the list (R121). -/
def State.inputImage (s : State) (i : InputIx) : List Byte :=
  let v := s.inputSettings i
  let place := placeIn (s.listOf v.precinct) i
  u8 (classCode v.cls) ++ u8 (modeCode v.mode) ++ uNumber v.precinct ++ uNumber v.station ++ s16 v.trim
    ++ s16 v.threshold ++ s16 v.closedAtt ++ u16 v.hold ++ u8 (gateCode (s.gateOf i)) ++ u16 (s.counterOf i)
    ++ s16 (s.gates.inputs.get i).peak ++ presence [place.isSome] ++ optField u8 place

def takeReadInput (input : Nat) (s : State) : State × Reply :=
  match number? 32 input with
  | none => (s, plain .range)
  | some i => (s, some (.ok, s.inputImage i))

/-- READ_INPUT (R121). -/
def execReadInput (input : Nat) (s : State) : Host.Outcome State Fault Refusal :=
  .next (onRequest Kind.readInput (takeReadInput input) s)

/-! ## SET-PRECINCT and READ-PRECINCT (R122, R123) -/

/-- Members are closed until the list fits: each victim the member of the largest class number, the oldest among
equals (R122). The fuel is the list's length. -/
def fitList (w : WorkingCopy) (p : PrecinctIx) (maxnom : Nat) : Nat → GateUnit → GateUnit
  | 0, g => g
  | k + 1, g =>
    if (g.lists.get p).length ≤ maxnom then g
    else
      match victim? w 0 (g.lists.get p) with
      | some v => fitList w p maxnom k (g.closeMember p v)
      | none => g

/-- The gate unit takes SET-PRECINCT (R122). One that carries neither MAXNOM nor LAST-ON is answered OK and changes
nothing: DESIGN CHOICE, R122 says "either or both" and not what such a request gets (notes/assumptions/26.md). -/
def takeSetPrecinct (precinct : Nat) (maxnom lastOn : Option Nat) (s : State) : State × Reply :=
  match number? 4 precinct, optional? flag? lastOn with
  | some p, some on =>
    let v := s.precinctSettings p
    let new : PrecinctSettings := { maxnom := (maxnom.map clampMaxnom).getD v.maxnom, lastOn := on.getD v.lastOn }
    ((s.setPrecinctSettings p new).setGates
        (fitList s.store.working p new.maxnom (s.listOf p).length s.gates),
      plain (okStatus (clampChanges clampMaxnom maxnom)))
  | _, _ => (s, plain .range)

/-- SET_PRECINCT (R122). -/
def execSetPrecinct (precinct : Nat) (maxnom lastOn : Option Nat) (s : State) :
    Host.Outcome State Fault Refusal :=
  .next (onRequest Kind.setPrecinct (takeSetPrecinct precinct maxnom lastOn) s)

/-- A precinct's record: MAXNOM, LAST-ON, and each member with its gate state and hold counter (R123). -/
def State.precinctImage (s : State) (p : PrecinctIx) : List Byte :=
  u8 (s.precinctSettings p).maxnom ++ uFlag (s.precinctSettings p).lastOn
    ++ listField (fun i => uNumber i ++ u8 (gateCode (s.gateOf i)) ++ u16 (s.counterOf i)) (s.listOf p)

def takeReadPrecinct (precinct : Nat) (s : State) : State × Reply :=
  match number? 4 precinct with
  | none => (s, plain .range)
  | some p => (s, some (.ok, s.precinctImage p))

/-- READ_PRECINCT (R123). -/
def execReadPrecinct (precinct : Nat) (s : State) : Host.Outcome State Fault Refusal :=
  .next (onRequest Kind.readPrecinct (takeReadPrecinct precinct) s)

end Sys2Proof.Machine
end

