-- ==== Sys2Proof/Machine/Zones.lean ====
section
/-! DEFINITION. Zones and amplifiers (chapter 7): the live condition, the power machine, the debounced lines, and
the zone and geometry requests. -/

namespace Sys2Proof.Machine

/-! ## Time

Every timer and debounce time is counted in sample periods of the clock in use (Time; 9.5). -/

/-- A wake time, in tenths of a second, as sample periods. -/
def wakePeriods (tenths : Nat) : Nat :=
  tenths * 4800

/-- A standby delay, in seconds, as sample periods. -/
def standbyPeriods (seconds : Nat) : Nat :=
  seconds * 48000

/-! ## The live condition (7.3) -/

/-- The live condition worked out afresh: install-live, controller-live or key-live (R127). -/
def ZoneLive.refreshLive (v : ZoneSettings) (l : ZoneLive) : ZoneLive :=
  { l with live := v.installLive || l.controllerLive || l.keyLive }

/-- A zone's controller-live setting takes `on`, and its live condition is worked out afresh (R130, R85). -/
def State.setControllerLive (s : State) (z : ZoneIx) (on : Bool) : State :=
  s.setZoneLive z (({ s.zoneLive z with controllerLive := on } : ZoneLive).refreshLive (s.zoneSettings z))

/-- The changes a cue's ZONE entries have handed on, taken in order (R85). -/
def takeHanded (s : State) (hs : List Handed) : State :=
  hs.foldl (fun s h => s.setControllerLive h.1 h.2) s

/-- The key-live reading of a zone whose record names `key` (R128). -/
def State.keyReading (s : State) (key : Option KeyIx) : Bool :=
  match key with
  | some k => (s.power.keys.get k).settled
  | none => false

/-! ## The power machine (7.4, 7.5) -/

/-- The standby timer as it starts with a standby delay; with 0 it does not run (R135). -/
def standbyTimer (delay : Nat) : ZoneTimer :=
  if delay = 0 then .none else .standby (standbyPeriods delay)

/-- A zone that leaves ACTIVE breaks the frame under way (R152). -/
def State.breakFrame (s : State) (z : ZoneIx) : State :=
  s.setFrame z { s.ring.frames.get z with active := false }

/-- A zone enters WAKING (R133): enable asserted, wake timer started, ZONE-CHANGE raised. -/
def State.enterWaking (s : State) (z : ZoneIx) : State :=
  (s.setZoneLive z
      { s.zoneLive z with
        power := .waking
        ampEnabled := true
        timer := .wake (wakePeriods (s.zoneSettings z).wakeTime) }).raise .zoneChange

/-- A zone becomes ACTIVE at the end of its wake (R134): the standby timer starts at once if no demand is
present. -/
def State.enterActive (s : State) (z : ZoneIx) : State :=
  (s.setZoneLive z
      { s.zoneLive z with
        power := .active
        timer :=
          if (s.zoneLive z).demandPresent then .none
          else standbyTimer (s.zoneSettings z).standbyDelay }).raise .zoneChange

/-- A zone enters STANDBY from ACTIVE or FAULT (R135, R139): enable released, no timer, ZONE-CHANGE raised. -/
def State.enterStandby (s : State) (z : ZoneIx) : State :=
  ((s.setZoneLive z { s.zoneLive z with power := .standby, ampEnabled := false, timer := .none }).breakFrame
      z).raise .zoneChange

/-- A zone enters FAULT (R138): enable released, timer cancelled, its routes halted with cause ZONE-FAULT, and
ZONE-FAULT and ZONE-CHANGE raised. -/
def State.enterFault (s : State) (z : ZoneIx) : State :=
  ((((s.setZoneLive z { s.zoneLive z with power := .fault, ampEnabled := false, timer := .none }).breakFrame
        z).haltZone z .zoneFault).raise .zoneFault).raise .zoneChange

/-- The route engine tells the zone controller that a zone's demand has left zero or become zero (R132). -/
def State.takeDemand (s : State) (z : ZoneIx) (present : Bool) : State :=
  let l := { s.zoneLive z with demandPresent := present }
  let s := s.setZoneLive z l
  match l.power, present with
  | .standby, true => s.enterWaking z
  | .active, true => s.setZoneLive z { l with timer := .none }
  | .active, false => s.setZoneLive z { l with timer := standbyTimer (s.zoneSettings z).standbyDelay }
  | .standby, false | .absent, _ | .waking, _ | .fault, _ => s

/-- A zone's new demand count, told to the zone controller where it crosses zero (R41). -/
def State.takeCount (s : State) (z : ZoneIx) (old new : Nat) : State :=
  if old = 0 ∧ 0 < new then s.takeDemand z true
  else if 0 < old ∧ new = 0 then s.takeDemand z false
  else s

/-- WAKE_TIMER_EXPIRY (R134): a WAKING zone becomes ACTIVE, or enters FAULT if its debounced status is FAULT. A
zone that is not WAKING has no wake timer, and no expiry follows. -/
def State.wakeExpired (s : State) (z : ZoneIx) : State :=
  match (s.zoneLive z).power, (s.zoneLive z).timer with
  | .waking, .wake _ => if (s.power.amps.get z).settled then s.enterActive z else s.enterFault z
  | .waking, .none | .waking, .standby _ | .absent, _ | .standby, _ | .active, _ | .fault, _ => s

/-- A running part takes the step for the zone numbered `zone`; there is no other zone. -/
def onZone (zone : Nat) (f : State → ZoneIx → State) (s : State) : State :=
  match number? 24 zone with
  | some z => whenRunning (f · z) s
  | none => s

/-- WAKE_TIMER_EXPIRY (R134). -/
def execWakeTimerExpiry (zone : Nat) (s : State) : Host.Outcome State Fault Refusal :=
  .next (onZone zone State.wakeExpired s)

/-- STANDBY_TIMER_EXPIRY (R135): an ACTIVE zone whose standby timer runs enters STANDBY. -/
def State.standbyExpired (s : State) (z : ZoneIx) : State :=
  match (s.zoneLive z).power, (s.zoneLive z).timer with
  | .active, .standby _ => s.enterStandby z
  | .active, .none | .active, .wake _ | .absent, _ | .standby, _ | .waking, _ | .fault, _ => s

/-- STANDBY_TIMER_EXPIRY (R135). -/
def execStandbyTimerExpiry (zone : Nat) (s : State) : Host.Outcome State Fault Refusal :=
  .next (onZone zone State.standbyExpired s)

/-! ## Debounced lines (R129) -/

/-- The raw level of a line becomes `level`: a departure from the debounced value starts the count, a return
abandons it (R129). -/
def Line.setRaw (level : Bool) (l : Line) : Line :=
  { l with raw := level, count := if level = l.settled then none else l.count.or (some 0) }

/-- The debounce time has passed: the debounced value becomes the raw level (R129). -/
def Line.settle (l : Line) : Line :=
  { l with settled := l.raw, count := none }

def State.setAmp (s : State) (z : ZoneIx) (l : Line) : State :=
  { s with power := { s.power with amps := s.power.amps.set z l } }

def State.setKey (s : State) (k : KeyIx) (l : Line) : State :=
  { s with power := { s.power with keys := s.power.keys.set k l } }

/-- The line of a part that is not running is not debounced (R200): only its raw level changes. -/
def lineLevel (run : RunState) (level : Bool) (l : Line) : Line :=
  match run with
  | .running => l.setRaw level
  | .off | .held => { l with raw := level, count := none }

/-- AMPOK_LINE_CHANGE (R129). -/
def execAmpokLineChange (zone : Nat) (ok : Bool) (s : State) : Host.Outcome State Fault Refusal :=
  .next
    (match number? 24 zone with
    | some z => s.setAmp z (lineLevel s.run ok (s.power.amps.get z))
    | none => s)

/-- KEY_LINE_CHANGE (R129). -/
def execKeyLineChange (key : Nat) (on : Bool) (s : State) : Host.Outcome State Fault Refusal :=
  .next
    (match number? 16 key with
    | some k => s.setKey k (lineLevel s.run on (s.power.keys.get k))
    | none => s)

/-- The debounce time of an amplifier-status line, 100 ms, as sample periods (R129). -/
def ampDebounce : Nat :=
  4800

/-- The debounce time of a key line, 50 ms, as sample periods (R129). -/
def keyDebounce : Nat :=
  2400

/-- Whether a line has differed from its debounced value continuously for a debounce time (R129). -/
def Line.debounced (time : Nat) (l : Line) : Bool :=
  match l.count with
  | none => false
  | some n => time ≤ n

/-- A debounced change of a zone's amplifier status, taken by its power state (R137). Before the debounce time has
passed there is none. -/
def State.ampSettled (s : State) (z : ZoneIx) : State :=
  match (s.power.amps.get z).debounced ampDebounce with
  | false => s
  | true =>
    let l := (s.power.amps.get z).settle
    let s := s.setAmp z l
    match (s.zoneLive z).power, l.settled with
    | .waking, false | .active, false => s.enterFault z
    | .fault, true => s.enterStandby z
    | .waking, true | .active, true | .fault, false | .absent, _ | .standby, _ => s

/-- AMP_STATUS_DEBOUNCED (R137). -/
def execAmpStatusDebounced (zone : Nat) (s : State) : Host.Outcome State Fault Refusal :=
  .next (onZone zone State.ampSettled s)

/-- Every zone whose record names a key takes its debounced level as key-live (R128). -/
def State.takeKey (s : State) (k : KeyIx) (on : Bool) : State :=
  { s with
    power :=
      { s.power with
        zones :=
          Table.zipWith
            (fun (v : ZoneSettings) (l : ZoneLive) =>
              if v.key = some k then ({ l with keyLive := on } : ZoneLive).refreshLive v else l)
            s.store.working.zones s.power.zones } }

/-- A debounced key change (R128); before the debounce time has passed there is none. -/
def State.keySettled (s : State) (k : KeyIx) : State :=
  match (s.power.keys.get k).debounced keyDebounce with
  | false => s
  | true =>
    let l := (s.power.keys.get k).settle
    (s.setKey k l).takeKey k l.settled

/-- KEY_DEBOUNCED (R128). -/
def execKeyDebounced (key : Nat) (s : State) : Host.Outcome State Fault Refusal :=
  .next
    (match number? 16 key with
    | some k => whenRunning (·.keySettled k) s
    | none => s)

/-! ## ZONE-LIVE (R130) -/

/-- The zone controller takes ZONE-LIVE; the answer carries the live condition after the change (R130). -/
def takeZoneLive (zone setting : Nat) (s : State) : State × Reply :=
  match number? 24 zone, flag? setting with
  | some z, some on =>
    if (s.zoneLive z).power = .absent then (s, plain .absent)
    else (s.setControllerLive z on, some (.ok, uFlag ((s.setControllerLive z on).zoneLive z).live))
  | _, _ => (s, plain .range)

/-- ZONE_LIVE (R130). -/
def execZoneLive (zone setting : Nat) (s : State) : Host.Outcome State Fault Refusal :=
  .next (onRequest Kind.zoneLive (takeZoneLive zone setting) s)

/-! ## SET-ZONE (R144 to R146) -/

/-- The key input a SET-ZONE leaves: the one it names, none with the no-key marker, else the one held; both at once
is refused (R144). -/
def keyEdit? (key : Option Nat) (noKey : Bool) (held : Option KeyIx) : Option (Option KeyIx) :=
  match key, noKey with
  | none, false => some held
  | none, true => some none
  | some k, false => (number? 16 k).map some
  | some _, true => none

/-- The zone's settings with every field the request carries written, quantities clamped and the home precinct added
to the listen set (R144, R126); none where the request is refused RANGE. -/
def zoneEdit? (f : ZoneFields) (v : ZoneSettings) : Option ZoneSettings :=
  match optional? (number? 4) f.home, optional? listen? f.listen, optional? flag? f.installLive,
      keyEdit? f.key f.noKey v.key, optional? flag? f.cueSafe, optional? flag? f.ringWatch with
  | some home, some listen, some install, some key, some safe, some watch =>
    some
      { home := home.getD v.home
        listen := withPrecinct (listen.getD v.listen) (home.getD v.home)
        ceiling := (f.ceiling.map clampCeiling).getD v.ceiling
        trim := (f.trim.map clampZoneTrim).getD v.trim
        duck := (f.duck.map clampDuck).getD v.duck
        precedence := (f.precedence.map clampPrecedence).getD v.precedence
        standbyDelay := (f.standbyDelay.map clampStandbyDelay).getD v.standbyDelay
        wakeTime := (f.wakeTime.map clampWakeTime).getD v.wakeTime
        installLive := install.getD v.installLive
        key := key
        cueSafe := safe.getD v.cueSafe
        ringWatch := watch.getD v.ringWatch
        ringThreshold := (f.ringThreshold.map clampRingThreshold).getD v.ringThreshold
        persistence := (f.persistence.map clampPersistence).getD v.persistence
        release := (f.release.map clampRelease).getD v.release }
  | _, _, _, _, _, _ => none

/-- Whether a SET-ZONE's quantities had to be clamped (R144). -/
def zoneClamped (f : ZoneFields) : Bool :=
  clampChanges clampCeiling f.ceiling || clampChanges clampZoneTrim f.trim || clampChanges clampDuck f.duck
    || clampChanges clampPrecedence f.precedence || clampChanges clampStandbyDelay f.standbyDelay
    || clampChanges clampWakeTime f.wakeTime || clampChanges clampRingThreshold f.ringThreshold
    || clampChanges clampPersistence f.persistence || clampChanges clampRelease f.release

/-- Whether a route is one that a listen-set shrink retires: its input belongs to a precinct that the stored set has
lost (R18, R145). -/
def State.losesListen (s : State) (z : ZoneIx) (old new : ZoneSettings) (r : Route) : Bool :=
  r.zone = z && listens old.listen (s.inputSettings r.input).precinct
    && !listens new.listen (s.inputSettings r.input).precinct

/-- What a change of the standby delay does to an ACTIVE zone's timer (R146). -/
def retime (old new : ZoneSettings) (l : ZoneLive) : ZoneLive :=
  if l.power = .active ∧ old.standbyDelay ≠ new.standbyDelay then
    match l.timer with
    | .standby _ => { l with timer := standbyTimer new.standbyDelay }
    | .none =>
      if l.demandPresent ∨ old.standbyDelay ≠ 0 then l else { l with timer := standbyTimer new.standbyDelay }
    | .wake _ => l
  else l

/-- The effects of a SET-ZONE that passes, as one event: the settings, the retirements of a listen-set shrink, the
delays of a precedence change, the live condition, the standby timer (R145, R146). -/
def State.editZone (s : State) (z : ZoneIx) (new : ZoneSettings) : State :=
  let old := s.zoneSettings z
  let s := (s.setZoneSettings z new).retireWhere (s.losesListen z old new)
  let s := if old.precedence = new.precedence then s else s.retapWhere fun r => r.zone = z
  let l := s.zoneLive z
  let l := if old.key = new.key then l else { l with keyLive := s.keyReading new.key }
  s.setZoneLive z (retime old new (l.refreshLive new))

/-- The zone controller takes SET-ZONE; the answer carries the number of routes moved into RETIRING (R144). -/
def takeSetZone (zone : Nat) (f : ZoneFields) (s : State) : State × Reply :=
  match number? 24 zone with
  | none => (s, plain .range)
  | some z =>
    match zoneEdit? f (s.zoneSettings z) with
    | none => (s, plain .range)
    | some new =>
      (s.editZone z new,
        some (okStatus (zoneClamped f), u16 (s.retiredCount (s.losesListen z (s.zoneSettings z) new))))

/-- SET_ZONE (R144). -/
def execSetZone (zone : Nat) (fields : ZoneFields) (s : State) : Host.Outcome State Fault Refusal :=
  .next (onRequest Kind.setZone (takeSetZone zone fields) s)

/-! ## READ-ZONE (R147) -/

/-- A timer's time to expiry in tenths of a second, rounded up (R147). -/
def timerTenths : ZoneTimer → Nat
  | .none => 0
  | .wake left => (left + 4799) / 4800
  | .standby left => (left + 4799) / 4800

/-- A zone's installation fields (R125), the key input last, where it is present (R193). -/
def zoneSettingsImage (v : ZoneSettings) : List Byte :=
  uNumber v.home ++ listenField v.listen ++ s16 v.ceiling ++ s16 v.trim ++ s16 v.duck ++ u16 v.precedence
    ++ u16 v.standbyDelay ++ u8 v.wakeTime ++ uFlag v.installLive ++ uFlag v.cueSafe ++ uFlag v.ringWatch
    ++ s16 v.ringThreshold ++ u8 v.persistence ++ u16 v.release

/-- The zone record (R147). -/
def State.zoneImage (s : State) (z : ZoneIx) : List Byte :=
  let v := s.zoneSettings z
  let l := s.zoneLive z
  zoneSettingsImage v ++ u8 (powerCode l.power) ++ uFlag l.controllerLive ++ uFlag l.keyLive ++ uFlag l.live
    ++ u8 (flagCode (!(s.power.amps.get z).settled)) ++ uFlag l.demandPresent ++ u16 (s.engine.demand.get z)
    ++ u8 (timerCode l.timer) ++ u16 (timerTenths l.timer) ++ uFlag (s.signal.clips.get z)
    ++ s16 (s.ringOf z).margin ++ uFlag (s.ringOf z).runaway ++ presence [v.key.isSome] ++ optField uNumber v.key

/-- READ-ZONE answers the record and clears CLIP (R147, R45). -/
def takeReadZone (zone : Nat) (s : State) : State × Reply :=
  match number? 24 zone with
  | none => (s, plain .range)
  | some z =>
    (s.setSignal { s.signal with clips := s.signal.clips.set z false }, some (.ok, s.zoneImage z))

/-- READ_ZONE (R147). -/
def execReadZone (zone : Nat) (s : State) : Host.Outcome State Fault Refusal :=
  .next (onRequest Kind.readZone (takeReadZone zone) s)

/-! ## Geometry (7.9) -/

def State.distance (s : State) (st : StationIx) (z : ZoneIx) : Nat :=
  (s.store.working.geometry.get st).get z

def State.setDistance (s : State) (st : StationIx) (z : ZoneIx) (d : Nat) : State :=
  s.setWorking
    { s.store.working with geometry := s.store.working.geometry.modify st fun row => row.set z d }

/-- The installation store takes SET-GEOMETRY: the entry written, and every geometric route it concerns reached by
its due delay, in the same event (R148). -/
def takeSetGeometry (station zone distance : Nat) (s : State) : State × Reply :=
  match number? 16 station, number? 24 zone with
  | some st, some z =>
    ((s.setDistance st z (clampDistance distance)).retapWhere fun r =>
        r.zone = z && (s.inputSettings r.input).station = st,
      plain (okStatus (clampChanges clampDistance (some distance))))
  | _, _ => (s, plain .range)

/-- SET_GEOMETRY (R148). -/
def execSetGeometry (station zone distance : Nat) (s : State) : Host.Outcome State Fault Refusal :=
  .next (onRequest Kind.setGeometry (takeSetGeometry station zone distance) s)

/-- READ-GEOMETRY: the distance, and the geometric delay it gives with the zone's present precedence (R149). -/
def takeReadGeometry (station zone : Nat) (s : State) : State × Reply :=
  match number? 16 station, number? 24 zone with
  | some st, some z =>
    (s, some (.ok, u16 (s.distance st z) ++ u16 (geometricDelay (s.distance st z) (s.zoneSettings z).precedence)))
  | _, _ => (s, plain .range)

/-- READ_GEOMETRY (R149). -/
def execReadGeometry (station zone : Nat) (s : State) : Host.Outcome State Fault Refusal :=
  .next (onRequest Kind.readGeometry (takeReadGeometry station zone) s)

end Sys2Proof.Machine
end

