-- ==== Sys2Proof/Machine/Scans.lean ====
section
/-! DEFINITION. Finding and sweeping routes (chapter 5). -/

namespace Sys2Proof.Machine

/-! ## The selector (5.1) -/

/-- A present field must equal the slot's value; an absent field places no condition (R92). -/
def fieldMatches [DecidableEq α] (field : Option α) (value : α) : Bool :=
  match field with
  | none => true
  | some a => a = value

/-- Whether an occupied slot matches, its precinct and class read from the input record (R92). -/
def State.routeMatches (s : State) (sel : Selector) (r : Route) : Bool :=
  let v := s.inputSettings r.input
  fieldMatches sel.input r.input && fieldMatches sel.zone r.zone && fieldMatches sel.precinct v.precinct
    && fieldMatches sel.cls v.cls && fieldMatches sel.state (slotState r.state) && fieldMatches sel.armed r.armed
    && (sel.cause.isNone || sel.cause = r.cause) && fieldMatches sel.limited r.limited

/-- Whether a FREE slot matches: no field but state is named, and state, if named, is FREE (R92). -/
def freeMatches (sel : Selector) : Bool :=
  sel.input.isNone && sel.zone.isNone && sel.precinct.isNone && sel.cls.isNone && sel.armed.isNone
    && sel.cause.isNone && sel.limited.isNone && fieldMatches sel.state .free

/-- Whether a slot matches a selector as it stands (R92). -/
def State.slotMatches (s : State) (sel : Selector) : Option Route → Bool
  | some r => s.routeMatches sel r
  | none => freeMatches sel

/-! ## The requests (5.3) -/

/-- The number of slots a count asks for: 0 and 256 both ask for the whole table (R94). -/
def scanExtent (count : Nat) : Nat :=
  if count = 0 then 256 else count

/-- An accepted scan becomes the scan in progress (R93). -/
def State.startScan (s : State) (job : ScanJob) (sel : Selector) (start : SlotIx) (count : Nat) : State :=
  s.setEngine
    { s.engine with
      scan := some { job := job, selector := sel, cursor := start, remaining := scanExtent count } }

/-- The route engine takes FIND-ROUTES (R94). -/
def takeFindRoutes (start : SlotIx) (count mode : Nat) (sel : SelectorForm) (s : State) : State × Reply :=
  match selector? sel, findMode? mode with
  | some sel, some mode =>
    if 256 < count then (s, plain .range) else (s.startScan (.find mode) sel start count, none)
  | _, _ => (s, plain .range)

/-- FIND_ROUTES (R94). -/
def execFindRoutes (start : SlotIx) (count mode : Nat) (sel : SelectorForm) (s : State) :
    Host.Outcome State Fault Refusal :=
  .next (onRequest Kind.findRoutes (takeFindRoutes start count mode sel) s)

/-- The route engine takes SWEEP-ROUTES (R95). -/
def takeSweepRoutes (start : SlotIx) (count action : Nat) (sel : SelectorForm) (level : Option Int) (s : State) :
    State × Reply :=
  match selector? sel, sweepAction? action level with
  | some sel, some act =>
    if 256 < count then (s, plain .range)
    else
      (s.startScan (.sweep act (action = 4 && clampChanges clampLevel level) 0 0 none) sel start count, none)
  | _, _ => (s, plain .range)

/-- SWEEP_ROUTES (R95). -/
def execSweepRoutes (start : SlotIx) (count action : Nat) (sel : SelectorForm) (level : Option Int) (s : State) :
    Host.Outcome State Fault Refusal :=
  .next (onRequest Kind.sweepRoutes (takeSweepRoutes start count action sel level) s)

/-! ## The scan step (5.4 to 5.6) -/

/-- A sweep's action on an occupied match: the route after it, or the status of its refusal (R99, R100). -/
def State.sweepRoute (s : State) (act : SweepAction) (r : Route) : Except Status Route :=
  match act with
  | .retire => if r.state = .retiring then .error .gone else .ok (retire r)
  | .halt => if r.state = .retiring then .error .gone else .ok (halt .controller r)
  | .clear => s.cleared r
  | .arm =>
    if r.armed then .ok r
    else
      match armRefusal r with
      | some st => .error st
      | none => .ok { r with armed := true }
  | .level v =>
    match stageArmRefusal r with
    | some st => .error st
    | none => .ok (stageArm (some v) none none .keep r)

/-- The slot after a slot, 0 after 255 (R96). -/
def nextSlot (k : SlotIx) : SlotIx :=
  k + 1

/-- The cursor moves on and remaining is decremented (R96). -/
def Scan.advance (sc : Scan) : Scan :=
  { sc with cursor := nextSlot sc.cursor, remaining := sc.remaining - 1 }

/-- How a scan step leaves a scan: still in progress, or ended with an answer's status and body. -/
inductive ScanEnd
  | going
  | ended (status : Status) (body : List Byte)
  deriving DecidableEq, Repr

/-- Whether a FIND stops at a slot that does or does not match (R98). -/
def stops : FindMode → Bool → Bool
  | .stopOnMatch, matched => matched
  | .stopOnMismatch, matched => !matched

/-- The sweep's counts after one matching occupied slot (R99). -/
def ScanJob.tally (k : SlotIx) (outcome : Except Status Route) : ScanJob → ScanJob
  | .find m => .find m
  | .sweep act c aff ref first =>
    match outcome with
    | .ok _ => .sweep act c (aff + 1) ref first
    | .error st => .sweep act c aff (ref + 1) (first.or (some (k, st)))

/-- A sweep examines the slot at its cursor: an occupied match takes the action and is counted (R99). -/
def State.sweepSlot (s : State) (act : SweepAction) (sc : Scan) : State × Scan :=
  match s.route? sc.cursor with
  | some r =>
    if s.slotMatches sc.selector (some r) then
      let o := s.sweepRoute act r
      (match o with | .ok r' => s.setSlot sc.cursor (some r') | .error _ => s,
        { sc with job := sc.job.tally sc.cursor o }.advance)
    else (s, sc.advance)
  | none => (s, sc.advance)

/-- A sweep's answer body: affected, refused, the first refusal (R194). -/
def sweepBody (affected refused : Nat) (first : Option (SlotIx × Status)) : List Byte :=
  u16 affected ++ u16 refused
    ++ (match first with
      | some (k, st) => uFlag true ++ uIndex k ++ [statusCode st]
      | none => uFlag false ++ u8 0 ++ u8 0)

/-- The answer of a scan that has no slot left to examine (R98, R101). -/
def Scan.exhausted (sc : Scan) : ScanEnd :=
  match sc.job with
  | .find _ => .ended .exhausted (uIndex sc.cursor ++ u16 0)
  | .sweep _ clamped aff ref first => .ended (okStatus clamped) (sweepBody aff ref first)

/-- Up to `k` slots are examined from the cursor upward (R96, R98). -/
def examine : Nat → State → Scan → State × Scan × ScanEnd
  | 0, s, sc => (s, sc, if sc.remaining = 0 then sc.exhausted else .going)
  | k + 1, s, sc =>
    if sc.remaining = 0 then (s, sc, sc.exhausted)
    else
      match sc.job with
      | .find m =>
        if stops m (s.slotMatches sc.selector (s.route? sc.cursor)) then
          (s, sc.advance, .ended .ok (uIndex sc.cursor ++ u16 sc.advance.remaining))
        else examine k s sc.advance
      | .sweep act _ _ _ _ =>
        let (s', sc') := s.sweepSlot act sc
        examine k s' sc'

/-- The KIND a scan's answer echoes (R187). -/
def ScanJob.kind : ScanJob → Byte
  | .find _ => Kind.findRoutes
  | .sweep _ _ _ _ _ => Kind.sweepRoutes

/-- A scan ends: the scan state becomes none, the receiver leaves WORKING, and the answer is handed to the
transmitter (R93, R102, R182). -/
def State.endScan (s : State) (kind : Byte) (st : Status) (body : List Byte) : State :=
  ((s.setEngine { s.engine with scan := none }).setPort { s.port with inProgress := none }).hand
    { kind := kind, status := st, body := body }

/-- Step 6 of a block completion (R96): a scan in progress examines its next 16 slots. -/
def scanStep (s : State) : State :=
  match s.engine.scan with
  | none => s
  | some sc =>
    match examine 16 s sc with
    | (t, sc', .going) => t.setEngine { t.engine with scan := some sc' }
    | (t, _, .ended st body) => t.endScan sc.job.kind st body

end Sys2Proof.Machine
end

