-- ==== Sys2Proof/Machine/Rings.lean ====
section
/-! DEFINITION. Ring control (chapter 8): analysis frames, confirmation and its answers, release and recovery, and the
notch requests. -/

namespace Sys2Proof.Machine

/-! ## Notch lists (8.1) -/

/-- Whether a notch covers a bin (R150). -/
def Notch.covers (b : Nat) (n : Notch) : Bool :=
  n.bin = b || n.bin + 1 = b || n.bin = b + 1

/-- The slots of a zone that hold no notch, lowest first. -/
def freeSlots (ns : List Notch) : List NotchIx :=
  (List.finRange 8).filter fun k => !ns.any fun n => n.slot = k

/-- Whether a notch is DYNAMIC. -/
def Notch.isDynamic (n : Notch) : Bool :=
  match n.kind with
  | .dynamic => true
  | .fixed _ => false

/-- The notch list with the notch of a slot removed. -/
def removeSlot (k : NotchIx) (ns : List Notch) : List Notch :=
  ns.filter fun n => n.slot ≠ k

/-- The notch list with the notch of a slot replaced in its place. -/
def mapSlot (k : NotchIx) (f : Notch → Notch) (ns : List Notch) : List Notch :=
  ns.map fun n => if n.slot = k then f n else n

/-- The slot a new notch takes, with the list it then joins: the lowest free slot, or else that of the DYNAMIC notch
that stands earliest, which leaves; none where all eight are FIXED (R156, R161). -/
def roomFor (ns : List Notch) : Option (NotchIx × List Notch) :=
  match freeSlots ns, ns.find? Notch.isDynamic with
  | k :: _, _ => some (k, ns)
  | [], some n => some (n.slot, removeSlot n.slot ns)
  | [], none => none

/-- A DYNAMIC notch as it is placed (R156). -/
def dynamicNotch (k : NotchIx) (b : Nat) : Notch where
  slot := k
  kind := .dynamic
  bin := b
  depth := 24
  sinceHit := 0
  fresh := true

/-! ## The frame's candidate (R153) -/

/-- The mean level, rounded down (R153). -/
def meanLevel (levels : List Int) : Int :=
  levels.sum / 508

/-- The highest level with its lowest-numbered bin, from bin `b` on (R153). -/
def highestBin : Nat → List Int → Option (Nat × Int)
  | _, [] => none
  | b, x :: xs =>
    match highestBin (b + 1) xs with
    | some (c, y) => if x < y then some (c, y) else some (b, x)
    | none => some (b, x)

/-- The frame's candidate: the highest bin, at or above the ring threshold over the mean and at or above −240
(R153). -/
def candidate? (threshold : Int) (levels : List Int) : Option Nat :=
  match highestBin 4 levels with
  | some (b, x) => if threshold ≤ x - meanLevel levels ∧ -240 ≤ x then some b else none
  | none => none

/-! ## The persistence state (R154) -/

/-- The candidate bin and count after the candidate of a frame (R154). -/
def Ring.persist (r : Ring) (c : Option Nat) : Ring :=
  match c, r.candidate with
  | none, _ => { r with candidate := none, count := 0 }
  | some c, none => { r with candidate := some c, count := 1 }
  | some c, some h =>
    if c = h ∨ c + 1 = h ∨ c = h + 1 then { r with candidate := some c, count := r.count + 1 }
    else { r with candidate := some c, count := 1 }

/-! ## Answering a confirmation (8.3) -/

/-- What an answered confirmation did: which slot was hit or taken, and whether it called for a margin step. -/
structure Answered where
  ring   : Ring
  hit    : Option NotchIx
  margin : Bool
  deriving DecidableEq, Repr

/-- Ringing confirmed under a notch (R155): a DYNAMIC notch below 72 deepens by 12; any other calls for a margin
step. -/
def Ring.hitNotch (r : Ring) (n : Notch) : Answered :=
  match n.kind, decide (n.depth < 72) with
  | .dynamic, true =>
    { ring :=
        { r with
          notches := mapSlot n.slot (fun n => { n with sinceHit := 0, depth := min 72 (n.depth + 12) }) r.notches }
      hit := some n.slot
      margin := false }
  | .dynamic, false | .fixed _, _ =>
    { ring := { r with notches := mapSlot n.slot (fun n => { n with sinceHit := 0 }) r.notches }
      hit := some n.slot
      margin := true }

/-- Ringing confirmed where no notch covers the bin (R156): a DYNAMIC notch is placed, or a margin step is called
for. -/
def Ring.placeNotch (r : Ring) (b : Nat) : Answered :=
  match roomFor r.notches with
  | some (k, ns) => { ring := { r with notches := ns ++ [dynamicNotch k b] }, hit := some k, margin := false }
  | none => { ring := r, hit := none, margin := true }

/-- Ringing confirmed at bin `b` (R155, R156): of the covering notches the one that stands earlier is hit. -/
def Ring.answer (r : Ring) (b : Nat) : Answered :=
  match r.notches.find? (Notch.covers b) with
  | some n => r.hitNotch n
  | none => r.placeNotch b

/-- A margin step (R157): 4 more, stopping at 48; from 48 the zone enters runaway. -/
def Ring.marginStep (r : Ring) : Ring :=
  if 48 ≤ r.margin then { r with runaway := true } else { r with margin := min 48 (r.margin + 4) }

/-! ## Release and recovery (8.4) -/

/-- One notch's part of R159 at a frame at which slot `hit` was hit: its frames since hit, then its release; none
where it is removed. -/
def ageNotch (release : Nat) (hit : Option NotchIx) (n : Notch) : Option Notch :=
  if hit = some n.slot then some n
  else
    let n := { n with sinceHit := min 65535 (n.sinceHit + 1) }
    match n.kind with
    | .fixed _ => some n
    | .dynamic =>
      if n.sinceHit < release then some n
      else if 12 < n.depth then some { n with depth := n.depth - 12, sinceHit := 0 }
      else none

/-- The zone's part of R160: frames since confirmation, and a margin recovery where a release time has passed. -/
def Ring.recover (release : Nat) (confirmed : Bool) (r : Ring) : Ring :=
  if confirmed then { r with sinceConfirm := 0 }
  else
    let n := min 65535 (r.sinceConfirm + 1)
    if release ≤ n then { r with sinceConfirm := 0, margin := r.margin - 4 } else { r with sinceConfirm := n }

/-! ## The frame result (R152 to R160) -/

/-- The frame result of a zone that is not watched (R152). -/
def Ring.unwatched (r : Ring) : Ring :=
  { r with candidate := none, count := 0 }

/-- How a watched zone's frame result leaves its ring fields, and the notices it raises. -/
structure FrameOutcome where
  ring       : Ring
  ringAction : Bool
  runaway    : Bool
  deriving DecidableEq, Repr

/-- The releases and the recovery of a frame result, which a zone in runaway does not have (R159, R160). -/
def Ring.ageAll (release : Nat) (hit : Option NotchIx) (confirmed : Bool) (r : Ring) : Ring :=
  if r.runaway then (if confirmed then { r with sinceConfirm := 0 } else r)
  else ({ r with notches := r.notches.filterMap (ageNotch release hit) }).recover release confirmed

/-- The frame result of a watched zone whose frame has candidate `c` (R154 to R160). -/
def Ring.frameOutcome (v : ZoneSettings) (c : Option Nat) (r : Ring) : FrameOutcome :=
  let p := r.persist c
  match p.candidate, decide (v.persistence ≤ p.count), r.runaway with
  | some _, true, true => { ring := { p with count := 0 }, ringAction := false, runaway := false }
  | some b, true, false =>
    let a := ({ p with count := 0 } : Ring).answer b
    let q := if a.margin then a.ring.marginStep else a.ring
    { ring := q.ageAll v.release a.hit true, ringAction := true, runaway := q.runaway }
  | none, _, _ | some _, false, _ =>
    { ring := p.ageAll v.release none false, ringAction := false, runaway := false }

/-- Whether a frame is watched (R152): the zone ACTIVE for the whole of it, live and with ring watch on when the
result is taken. -/
def State.watched (s : State) (z : ZoneIx) (f : FrameCapture) : Bool :=
  f.active && (s.zoneLive z).live && (s.zoneSettings z).ringWatch

/-- The levels of bins 4..511 of a frame's samples (R153): those the transform gives, and −480 for every bin of a silent
frame. -/
def frameLevels (f : FrameCapture) : List Int :=
  if f.samples.all (· = 0) then List.replicate 508 (-480)
  else
    (List.range 508).map fun k =>
      binLevel Config.transform.full (Config.transform.magnitude f.samples.reverse (4 + k))

/-- The result of a zone's ended frame (R153 to R160): ring fields, then the notices, and the halt of a zone that
enters runaway (R157). -/
def State.takeFrame (s : State) (z : ZoneIx) (f : FrameCapture) : State :=
  let v := s.zoneSettings z
  let s := s.setFrame z { s.ring.frames.get z with due := none }
  if s.watched z f then
    let o := (s.ringOf z).frameOutcome v (candidate? v.ringThreshold (frameLevels f))
    let s := s.setRing z o.ring
    let s := if o.runaway then s.haltZone z .ring else s
    (s.raiseIf o.ringAction .ringAction).raiseIf o.runaway .runaway
  else s.setRing z (s.ringOf z).unwatched

/-- A zone's frame result is taken where a frame of it has ended (R152). -/
def State.frameResult (s : State) (z : ZoneIx) : State :=
  match (s.ring.frames.get z).due with
  | some f => s.takeFrame z f
  | none => s

/-- FRAME_RESULT (R153). The event brings no levels: they are those of the frame's own samples. -/
def execFrameResult (zone : Nat) (_levels : Unit) (s : State) : Host.Outcome State Fault Refusal :=
  .next (onZone zone State.frameResult s)

/-- The end of a zone's frame, cut at its 64th block completion: its result is due. The result of the frame before it is
taken first, where it has not been ("it is taken before the next frame ends", R152). -/
def State.endZoneFrame (s : State) (z : ZoneIx) : State :=
  match (s.ring.frames.get z).ended with
  | [] => s
  | f :: rest =>
    let t := s.frameResult z
    t.setFrame z { t.ring.frames.get z with ended := rest, due := some f }

/-- The frame ends for every zone at once (R152); where none has been cut there is no end of one. -/
def endFrame (s : State) : State :=
  (List.finRange 24).foldl State.endZoneFrame s

/-- ANALYSIS_FRAME_END (R152). -/
def execAnalysisFrameEnd (s : State) : Host.Outcome State Fault Refusal :=
  .next (whenRunning endFrame s)

/-! ## The notch requests (8.5) -/

/-- A notch as the working copy holds it, if it is FIXED (R150). -/
def Notch.stored (n : Notch) : Option FixedNotch :=
  match n.kind with
  | .fixed w => some { bin := n.bin, depth := n.depth, width := w }
  | .dynamic => none

/-- The FIXED notches of a list, each in its slot, as the working copy holds them (R150). -/
def storedNotches (ns : List Notch) : Table (Option FixedNotch) 8 :=
  Table.ofFn fun k => (ns.find? fun n => n.slot = k).bind Notch.stored

/-- A zone's notch list changed by a request, with the working copy's FIXED notches, in one event (R150). -/
def State.setNotches (s : State) (z : ZoneIx) (ns : List Notch) : State :=
  (s.setRing z { s.ringOf z with notches := ns }).setWorking
    { s.store.working with notches := s.store.working.notches.set z (storedNotches ns) }

/-- A notch as PIN-NOTCH makes it in a slot (R161). -/
def pinned (b : Nat) (d : Int) (w : Nat) (fresh : Bool) (k : NotchIx) : Notch where
  slot := k
  kind := .fixed w
  bin := b
  depth := d
  sinceHit := 0
  fresh := fresh

/-- The notch list after a pin, with the pinned notch's slot; none where all eight are FIXED and none covers the bin
(R161). -/
def pinIn (ns : List Notch) (b : Nat) (d : Int) (w : Nat) : Option (List Notch × NotchIx) :=
  match ns.filter (Notch.covers b) with
  | n :: others =>
    some
      ((ns.filter fun m => !others.any fun o => o.slot = m.slot).map
          fun m => if m.slot = n.slot then pinned b d w m.fresh m.slot else m,
        n.slot)
  | [] =>
    match roomFor ns with
    | some (k, ns) => some (ns ++ [pinned b d w true k], k)
    | none => none

/-- The ring detector takes PIN-NOTCH (R161). -/
def takePinNotch (zone bin : Nat) (depth : Int) (width : Nat) (s : State) : State × Reply :=
  match number? 24 zone with
  | none => (s, plain .range)
  | some z =>
    if bin < 4 ∨ 511 < bin then (s, plain .range)
    else
      match pinIn (s.ringOf z).notches bin (clampNotchDepth depth) (clampNotchWidth width) with
      | some (ns, k) =>
        (s.setNotches z ns,
          some
            (okStatus (clampChanges clampNotchDepth (some depth) || clampChanges clampNotchWidth (some width)),
              uIndex k))
      | none => (s, plain .full)

/-- PIN_NOTCH (R161). -/
def execPinNotch (zone bin : Nat) (depth : Int) (width : Nat) (s : State) : Host.Outcome State Fault Refusal :=
  .next (onRequest Kind.pinNotch (takePinNotch zone bin depth width) s)

/-- The ring detector takes DROP-NOTCH (R162). -/
def takeDropNotch (zone slot : Nat) (s : State) : State × Reply :=
  match number? 24 zone, index? 8 slot with
  | some z, some k =>
    if (s.ringOf z).notches.any fun n => n.slot = k then
      (s.setNotches z (removeSlot k (s.ringOf z).notches), plain .ok)
    else (s, plain .ok)
  | _, _ => (s, plain .range)

/-- DROP_NOTCH (R162). -/
def execDropNotch (zone slot : Nat) (s : State) : Host.Outcome State Fault Refusal :=
  .next (onRequest Kind.dropNotch (takeDropNotch zone slot) s)

/-- READ-NOTCHES: the notch list in order of creation and the ring state (R163). -/
def takeReadNotches (zone : Nat) (s : State) : State × Reply :=
  match number? 24 zone with
  | none => (s, plain .range)
  | some z => (s, some (.ok, ringImage (s.ringOf z)))

/-- READ_NOTCHES (R163). -/
def execReadNotches (zone : Nat) (s : State) : Host.Outcome State Fault Refusal :=
  .next (onRequest Kind.readNotches (takeReadNotches zone) s)

/-- The ring fields CLEAR-RING leaves: the margin and the notches stay (R164). -/
def Ring.cleared (r : Ring) : Ring :=
  { r with runaway := false, count := 0, candidate := none, sinceConfirm := 0 }

/-- The ring detector takes CLEAR-RING (R164). -/
def takeClearRing (zone : Nat) (s : State) : State × Reply :=
  match number? 24 zone with
  | none => (s, plain .range)
  | some z => (s.setRing z (s.ringOf z).cleared, plain .ok)

/-- CLEAR_RING (R164). -/
def execClearRing (zone : Nat) (s : State) : Host.Outcome State Fault Refusal :=
  .next (onRequest Kind.clearRing (takeClearRing zone) s)

end Sys2Proof.Machine
end

