-- ==== Sys2Proof/Machine/Signal.lean ====
section
/-! DEFINITION. Signal path and clock (chapter 9): delay lines, EQ presets, zone processing, the sample period, the
beginning of a block, and the clock. -/

namespace Sys2Proof.Machine

/-! ## EQ presets (9.3) -/

/-- The bands of a preset; preset 0 is flat and not held in the working copy (R171). -/
def bandsOf (w : WorkingCopy) (p : PresetIx) : List EqBand :=
  match number? 15 p.1 with
  | some k => w.presets.get k
  | none => []

/-- The band list that SET-EQ stores, its quantities clamped; none where R173 refuses it RANGE. -/
def acceptBands? (bands : List BandForm) : Option (List EqBand) :=
  if 4 < bands.length then none else all? eqBand? bands

/-- The installation store takes SET-EQ (R173). -/
def takeSetEq (preset : Nat) (bands : List BandForm) (s : State) : State × Reply :=
  match number? 15 preset, acceptBands? bands with
  | some k, some bs =>
    (s.setWorking { s.store.working with presets := s.store.working.presets.set k bs },
      plain (okStatus (bands.any bandClamped)))
  | _, _ => (s, plain .range)

/-- SET_EQ (R173). -/
def execSetEq (preset : Nat) (bands : List BandForm) (s : State) : Host.Outcome State Fault Refusal :=
  .next (onRequest Kind.setEq (takeSetEq preset bands) s)

/-- READ-EQ: the preset's bands in order, as stored after clamping (R174). -/
def takeReadEq (preset : Nat) (s : State) : State × Reply :=
  match index? 16 preset with
  | none => (s, plain .range)
  | some p => (s, some (.ok, listField bandImage (bandsOf s.store.working p)))

/-- READ_EQ (R174). -/
def execReadEq (preset : Nat) (s : State) : Host.Outcome State Fault Refusal :=
  .next (onRequest Kind.readEq (takeReadEq preset) s)

/-! ## Delay lines (9.2)

A line is held newest sample first, with no sample 0 at its oldest end: a position beyond the list reads 0
(R169). -/

/-- A line without the zeros at its oldest end. -/
def dropOldZeros : List Int → List Int
  | [] => []
  | x :: xs =>
    match dropOldZeros xs with
    | [] => if x = 0 then [] else [x]
    | y :: ys => x :: y :: ys

/-- The arriving sample is written and the oldest leaves: the line keeps the present sample and the 24,000 before it
(R169). -/
def pushSample (x : Int) (line : List Int) : List Int :=
  dropOldZeros ((x :: line).take 24001)

/-- The sample that arrived `d` sample periods ago (R169, R170). -/
def lineAt (line : List Int) (d : Nat) : Int :=
  line.getD d 0

/-- The one form a line's contents have: no more than 24,001 samples, the oldest held not 0. -/
def lineWf (line : List Int) : Bool :=
  line.length ≤ 24001 && line.getLast? ≠ some 0

/-! ## Filters (R171, R172, R175) -/

/-- One EQ band at work on one sample. Silence stays silence, and a PEAK or a shelf with gain 0 leaves the sample
unchanged (R171); otherwise the filter's arithmetic is not given. -/
def runBand (b : EqBand) (m : FilterMemory) (x : Int) : FilterMemory × Int :=
  if m = [] ∧ x = 0 then ([], 0)
  else
    let y := Config.eqFilter b m x
    if b.kind ≠ .highPass ∧ b.gain = some 0 then (y.1, x) else y

/-- The bands of a preset in list order, each with the memory of its place; a place without memory is silent. Places
beyond the preset's bands keep their memory (R172). -/
def runBands : List EqBand → List FilterMemory → Int → List FilterMemory × Int
  | [], ms, x => (ms, x)
  | b :: bs, ms, x =>
    let (m, y) := runBand b (ms.headD []) x
    let (ms', z) := runBands bs ms.tail y
    (m :: ms', z)

/-- One notch at work on one sample; silence stays silence (R175, R176). -/
def runNotch (c : NotchCut) (m : FilterMemory) (x : Int) : FilterMemory × Int :=
  if m = [] ∧ x = 0 then ([], 0) else Config.notchFilter c m x

/-- A zone's notches one after another, at full width between them (R175). -/
def runNotches : List (NotchIx × NotchCut) → Table FilterMemory 8 → Int → Table FilterMemory 8 × Int
  | [], ms, x => (ms, x)
  | (k, c) :: cs, ms, x =>
    let (m, y) := runNotch c (ms.get k) x
    runNotches cs (ms.set k m) y

/-! ## The sample period (9.1, 2.5) -/

/-- One occupied slot's work on a sample: its filter memory, its equalised sample, saturated (R172), times its
coefficient (R43). A slot without a tap contributes nothing. -/
def runTap (lines : Table (List Int) 32) (t : Option Tap) (ms : List FilterMemory) : List FilterMemory × Int :=
  match t with
  | none => (ms, 0)
  | some t =>
    let (ms', y) := runBands t.bands ms (lineAt (lines.get t.input) t.delay)
    (ms', saturate y * t.coeff)

/-- The bus of a zone: the sum of its taps' products (R43). -/
def busSum (z : ZoneIx) (taps : Table (Option Tap) 256) (work : Table (List FilterMemory × Int) 256) : Int :=
  (List.zipWith
      (fun (t : Option Tap) (w : List FilterMemory × Int) =>
        match t with
        | some t => if t.zone = z then w.2 else 0
        | none => 0)
      taps.cells work.cells).sum

/-- A zone's sample: its notch memory, the value after its notches, and the sample sent (R44, R45, R175). A zone
that forms no bus sends 0 (R176). -/
structure ZoneSample where
  memory : Table FilterMemory 8
  value  : Int
  sent   : Int
  deriving DecidableEq, Repr

/-- One zone's work on a sample (R175, R176). -/
def zoneSample (cuts : Option (List (NotchIx × NotchCut))) (memory : Table FilterMemory 8) (sum : Int) :
    ZoneSample :=
  match cuts with
  | none => { memory := memory, value := 0, sent := 0 }
  | some cs =>
    let (m, v) := runNotches cs memory (roundBus sum)
    { memory := m, value := v, sent := saturate v }

/-- A zone timer with one sample period less to run. -/
def ZoneTimer.tick : ZoneTimer → ZoneTimer
  | .none => .none
  | .wake left => .wake (left - 1)
  | .standby left => .standby (left - 1)

/-- A debounce count one sample period on. -/
def Line.tick (l : Line) : Line :=
  { l with count := l.count.map (· + 1) }

/-- The house clock's time present, counted up to 1 s (R177). -/
def Clock.tick (c : Clock) : Clock :=
  if c.present then { c with timePresent := min 48000 (c.timePresent + 1) } else c

/-- The timers and counts of the part one sample period on (Time; R129, R177, R184). -/
def tickTimers (s : State) : State :=
  { s with
    power :=
      { zones := s.power.zones.map fun l => { l with timer := ZoneTimer.tick l.timer }
        amps := s.power.amps.map Line.tick
        keys := s.power.keys.map Line.tick }
    signal := { s.signal with clock := s.signal.clock.tick }
    port := { s.port with gap := s.port.gap.map (· + 1) } }

/-- The sample enters the frame under way of its zone (R152, R153). -/
def frameSample (blocks : Option Nat) (x : ZoneSample) (f : ZoneFrame) : ZoneFrame :=
  match blocks with
  | some _ => { f with samples := x.value :: f.samples }
  | none => f

/-- The lane of AIN 1..4 and the channel of 1..8, each from 0, that carry an input (R168). -/
def laneOf (i : InputIx) : Fin 4 × Fin 8 :=
  (⟨i.1 / 8, by omega⟩, ⟨i.1 % 8, by omega⟩)

/-- The sample of each input as the lanes carry them (R168). -/
def inputSamples (ain : Table (Table SampleWord 8) 4) : Table SampleWord 32 :=
  Table.ofFn fun i => (ain.get (laneOf i).1).get (laneOf i).2

/-- The zone that a channel of 1..8 of a lane of AOUT 1..3, each from 0, carries (R168). -/
def zoneOn (lane : Fin 3) (channel : Fin 8) : ZoneIx :=
  ⟨8 * lane.1 + channel.1, by omega⟩

/-- The sample that the part last sent on a channel of an output lane, in its 24 bits (R168). -/
def State.aout (s : State) (lane : Fin 3) (channel : Fin 8) : SampleWord :=
  BitVec.ofInt 24 (s.signal.outputs.get (zoneOn lane channel))

/-- The signal engine's work in one sample period: the 32 samples into their lines and peak measures, then every tap,
then every zone (R168 to R176). CLIP is set where saturation changes the sample of an ACTIVE zone (R45). -/
def samplePeriod (xs : Table SampleWord 32) (s : State) : State :=
  let g := s.signal
  let lines := Table.zipWith (fun (x : SampleWord) l => pushSample x.toInt l) xs g.lines
  let work := Table.zipWith (runTap lines) g.taps g.eqMemory
  let zones := Table.ofFn fun z => zoneSample (g.buses.get z) (g.notchMem.get z) (busSum z g.taps work)
  let g' : SignalEngine :=
    { g with
      lines := lines
      elapsed := g.elapsed + 1
      peaks := Table.zipWith (fun (x : SampleWord) m => max m x.toInt.natAbs) xs g.peaks
      eqMemory := work.map Prod.fst
      notchMem := zones.map ZoneSample.memory
      outputs := zones.map ZoneSample.sent
      clips :=
        Table.ofFn fun z =>
          g.clips.get z
            || ((s.zoneLive z).power = .active && (zones.get z).sent ≠ (zones.get z).value) }
  tickTimers
    { s with
      signal := g'
      ring := { s.ring with frames := Table.zipWith (frameSample s.ring.blocks) zones s.ring.frames } }

/-- SAMPLE_PERIOD (R168). -/
def execSamplePeriod (ain : Table (Table SampleWord 8) 4) (s : State) : Host.Outcome State Fault Refusal :=
  .next (whenRunning (samplePeriod (inputSamples ain)) s)

/-! ## The beginning of a block

What the signal engine reads "at the start of each block" it reads here, once, for the whole of the block
(R42, R170, R172, R175, R176). -/

/-- What the signal engine uses for a route throughout the block that begins (R42, R170, R172). -/
def tapOf (w : WorkingCopy) (r : Route) : Tap where
  input := r.input
  zone := r.zone
  delay := r.delay
  coeff := coefficient r.current
  bands := bandsOf w r.live.preset

/-- A notch as the signal engine cuts it: a DYNAMIC notch is 1 tenth of an octave wide (R175). -/
def Notch.cut (n : Notch) : NotchCut where
  bin := n.bin
  depth := n.depth
  width := (NotchKind.width? n.kind).getD 1

/-- A zone's notches in ascending slot order, free slots skipped (R175). -/
def cutsOf (ns : List Notch) : List (NotchIx × NotchCut) :=
  (List.finRange 8).filterMap fun k => (ns.find? fun n => n.slot = k).map fun n => (k, n.cut)

/-- A notch slot's filter memory as a block begins: kept for a notch that was there, in a zone that formed a bus in
the block before and forms one now; silence otherwise (R175, R176). -/
def keptMemory (wasBus isBus : Bool) (ns : List Notch) (ms : Table FilterMemory 8) : Table FilterMemory 8 :=
  Table.ofFn fun k =>
    if wasBus && isBus && ns.any fun n => n.slot = k && !n.fresh then ms.get k else []

/-- A zone's notches once a block has begun with them. -/
def settleNotches (r : Ring) : Ring :=
  { r with notches := r.notches.map fun n => { n with fresh := false } }

/-- The zone forms a bus while it is ACTIVE (R43, R176). -/
def busOf (l : ZoneLive) (r : Ring) : Option (List (NotchIx × NotchCut)) :=
  if l.power = .active then some (cutsOf r.notches) else none

/-- A zone's frame is cut and its next begins, without gap or overlap (R152). -/
def cutFrame (l : ZoneLive) (f : ZoneFrame) : ZoneFrame :=
  { f with
    active := l.power = .active
    samples := []
    ended := f.ended ++ [{ active := f.active, samples := f.samples }] }

/-- A zone's first frame after a RESTART begins (R167). -/
def firstFrame (l : ZoneLive) : ZoneFrame :=
  { ZoneFrame.empty with active := l.power = .active }

/-- The analysis frame one block on: its 64th block completion cuts it for every zone at once. The first frame after a
RESTART begins with the block that begins now (R152, R167). -/
def frameBlock (s : State) : RingDetector :=
  match s.ring.blocks with
  | some n =>
    if 64 ≤ n + 1 then
      { s.ring with blocks := some 0, frames := Table.zipWith cutFrame s.power.zones s.ring.frames }
    else { s.ring with blocks := some (n + 1) }
  | none => { s.ring with blocks := some 0, frames := s.power.zones.map firstFrame }

/-- A slot's filter memory as a block begins: discarded for a FREE slot (R172); and, with the first block after a
RESTART, for every slot, since the block the RESTART came in ran on with the taps of the emptied table (R26, R180). -/
def keptEqMemory (blocks : Option Nat) (c : Option Route) (ms : List FilterMemory) : List FilterMemory :=
  match blocks, c with
  | some _, some _ => ms
  | some _, none | none, _ => []

/-- A block begins: the taps, coefficients, bands, buses and notches the signal engine uses until the next
completion, and a fresh peak measure. -/
def beginBlock (s : State) : State :=
  let g := s.signal
  let buses := Table.zipWith busOf s.power.zones s.ring.zones
  { s with
    ring := { frameBlock s with zones := s.ring.zones.map settleNotches }
    signal :=
      { g with
        elapsed := 0
        peaks := Table.fill 32 0
        taps := s.engine.table.map (Option.map (tapOf s.store.working))
        eqMemory := Table.zipWith (keptEqMemory s.ring.blocks) s.engine.table g.eqMemory
        buses := buses
        notchMem :=
          Table.ofFn fun z =>
            keptMemory (g.buses.get z).isSome (buses.get z).isSome (s.ringOf z).notches (g.notchMem.get z) } }

/-! ## The clock (9.5) -/

/-- The time present that R178 and R179 ask for: 1 s. -/
def oneSecond : Nat :=
  48000

def State.setClock (s : State) (c : Clock) : State :=
  s.setSignal { s.signal with clock := c }

/-- The house clock becomes absent (R177, R178): a part on it, or about to move to it, stays on its internal clock in
FALLBACK and CLOCK is raised. -/
def clockLost (s : State) : State :=
  let c := { s.signal.clock with present := false, timePresent := 0 }
  match s.signal.clock.present, s.signal.clock.status with
  | true, .locked => (s.setClock { c with status := .fallback, source := .internal, moving := false }).raise .clock
  | true, .internal | true, .fallback => s.setClock c
  | false, _ => s

/-- HOUSE_CLOCK_LOST (R178). -/
def execHouseClockLost (s : State) : Host.Outcome State Fault Refusal :=
  .next (whenRunning clockLost s)

/-- The house clock becomes present, its time present starting from 0 (R177). -/
def clockReturned (s : State) : State :=
  if s.signal.clock.present then s
  else s.setClock { s.signal.clock with present := true, timePresent := 0 }

/-- HOUSE_CLOCK_RETURNED (R177). -/
def execHouseClockReturned (s : State) : Host.Outcome State Fault Refusal :=
  .next (whenRunning clockReturned s)

/-- The house clock has been present for 1 s: in FALLBACK the status becomes LOCKED, the move to the house clock
waits for the end of the block, and CLOCK is raised (R178). -/
def clockLock (s : State) : State :=
  let c := { s.signal.clock with timePresent := oneSecond }
  match s.signal.clock.present, s.signal.clock.status with
  | true, .fallback => (s.setClock { c with status := .locked, moving := true }).raise .clock
  | true, .internal | true, .locked => s.setClock c
  | false, _ => s

/-- HOUSE_CLOCK_LOCK (R178). -/
def execHouseClockLock (s : State) : Host.Outcome State Fault Refusal :=
  .next (whenRunning clockLock s)

/-- The waiting move to the house clock is made (R178). -/
def clockMove (s : State) : State :=
  if s.signal.clock.moving then s.setClock { s.signal.clock with source := .house, moving := false } else s

/-- The move is made at the end of the block under way, once its 32 samples have come (R178). -/
def clockMoveDue (s : State) : State :=
  if 32 ≤ s.signal.elapsed then clockMove s else s

/-- HOUSE_CLOCK_MOVE (R178). -/
def execHouseClockMove (s : State) : Host.Outcome State Fault Refusal :=
  .next (whenRunning clockMoveDue s)

/-- The clock state after an accepted SET-CLOCK (R179). -/
def Clock.withSetting (c : Clock) (v : ClockSetting) : Clock :=
  if c.setting = v then c
  else
    match v with
    | .internal => { c with setting := .internal, status := .internal, source := .internal, moving := false }
    | .follow =>
      if c.present ∧ oneSecond ≤ c.timePresent then { c with setting := .follow, status := .locked, moving := true }
      else { c with setting := .follow, status := .fallback }

/-- The signal engine takes SET-CLOCK; the answer carries the status after it (R179). -/
def takeSetClock (setting : Nat) (s : State) : State × Reply :=
  match setting? setting with
  | none => (s, plain .range)
  | some v =>
    (s.setClock (s.signal.clock.withSetting v),
      some (.ok, u8 (clockStatusCode (s.signal.clock.withSetting v).status)))

/-- SET_CLOCK (R179). -/
def execSetClock (setting : Nat) (s : State) : Host.Outcome State Fault Refusal :=
  .next (onRequest Kind.setClock (takeSetClock setting) s)

/-- A time present in tenths of a second, rounded down and reported as 10 for 1 s or more (R179). -/
def presentTenths (periods : Nat) : Nat :=
  min 10 (periods / 4800)

/-- READ-CLOCK: the setting, the status, the presence and the time present (R179). -/
def takeReadClock (s : State) : State × Reply :=
  let c := s.signal.clock
  (s, some (.ok,
    u8 (settingCode c.setting) ++ u8 (clockStatusCode c.status) ++ uFlag c.present
      ++ u8 (presentTenths c.timePresent)))

/-- READ_CLOCK (R179). -/
def execReadClock (s : State) : Host.Outcome State Fault Refusal :=
  .next (onRequest Kind.readClock takeReadClock s)

end Sys2Proof.Machine
end

