-- ==== Sys2Proof/Machine/Stores.lean ====
section
/-! DEFINITION. Installation store and start-up (chapter 11): STORE and its write, the image load, RESTART, power and
reset, and the start-up sequence. -/

namespace Sys2Proof.Machine

/-! ## STORE and the write (11.2) -/

/-- The store takes STORE (R196). An IDLE store takes its snapshot and begins to write, which erases the image area
with its mark first (R197); a WRITING one goes on unchanged. -/
def takeStore (s : State) : State × Reply :=
  match s.store.writing with
  | some _ => (s, plain .busy)
  | none =>
    (s.setStore
        { s.store with
          writing := some s.store.working
          flash := { s.store.flash with mark := erasedMark } },
      plain .started)

/-- STORE (R196). -/
def execStore (s : State) : Host.Outcome State Fault Refusal :=
  .next (onRequest Kind.store takeStore s)

/-- A write ends: the snapshot is discarded, the store state is IDLE, the notice is raised (R197). Without a write
there is no end of one. -/
def endWrite (left : WorkingCopy → FlashImage) (n : Notice) (s : State) : State :=
  match s.store.writing with
  | some w => (s.setStore { s.store with writing := none, flash := left w }).raise n
  | none => s

/-- STORE_WRITE_DONE (R197). -/
def execStoreWriteDone (s : State) : Host.Outcome State Fault Refusal :=
  .next (whenRunning (endWrite imageOf .storeDone) s)

/-- STORE_WRITE_FAILED (R197). -/
def execStoreWriteFailed (left : FlashImage) (s : State) : Host.Outcome State Fault Refusal :=
  .next (whenRunning (endWrite (fun _ => left) .storeFailed) s)

/-- STORE_STAGE_TIMEOUT (R197). -/
def execStoreStageTimeout (left : FlashImage) (s : State) : Host.Outcome State Fault Refusal :=
  .next (whenRunning (endWrite (fun _ => left) .storeFailed) s)

/-- A write is cut off wherever it stands (R197): the flash, its mark erased when the write began, is left without
one. -/
def cutWrite (st : Store) : Store :=
  { st with writing := none }

/-! ## RESTART (R186) -/

/-- The store takes RESTART: it is answered OK, and the sequence is due once that answer has been sent in full
(R186, R201). A RESTART taken while a sequence is already due leaves it due, so that the sequence may come before this
second answer has been sent, which it then drops: DESIGN CHOICE, the manual does not say which answer the sequence
waits for (notes/assumptions/27.md). -/
def takeRestart (s : State) : State × Reply :=
  (s.setPort
      { s.port with
        restart :=
          match s.port.restart with
          | .due => .due
          | .none | .answering => .answering },
    plain .ok)

/-- RESTART (R186). -/
def execRestart (s : State) : Host.Outcome State Fault Refusal :=
  .next (onRequest Kind.restart takeRestart s)

/-! ## The image load (R198) -/

/-- Whether WRITE-CUE would take a record, but for the quantities it clamps (R73). -/
def cueAcceptable (c : Cue) : Bool :=
  (c.label.getD []).length ≤ 12 && (c.label.getD []).all isCharacter && c.entries.length ≤ 16

/-- Whether SET-EQ would take a band list, but for the quantities it clamps (R173). -/
def bandsAcceptable (bs : List EqBand) : Bool :=
  bs.length ≤ 4 && bs.all fun b => b.kind ≠ .highPass || b.gain.isNone

/-- A stored input record as SET-INPUT takes it whole, its quantities clamped (R116); none where it is refused RANGE. -/
def loadInput? (r : StoredInput) : Option InputSettings :=
  inputEdit?
    { cls := some r.cls, mode := some r.mode, precinct := some r.precinct, station := some r.station
      trim := some r.trim, threshold := some r.threshold, closedAtt := some r.closedAtt, hold := some r.hold }
    factoryInput

/-- A stored precinct record as SET-PRECINCT takes it whole (R122). -/
def loadPrecinct? (r : StoredPrecinct) : Option PrecinctSettings :=
  (flag? r.lastOn).map fun on => { maxnom := clampMaxnom r.maxnom, lastOn := on }

/-- A stored zone record as SET-ZONE takes it whole (R144); none also where its listen set lacks its home precinct, which
SET-ZONE would add (R126, R198). -/
def loadZone? (r : StoredZone) : Option ZoneSettings :=
  match
    zoneEdit?
      { home := some r.home, listen := some r.listen, ceiling := some r.ceiling, trim := some r.trim
        duck := some r.duck, precedence := some r.precedence, standbyDelay := some r.standbyDelay
        wakeTime := some r.wakeTime, installLive := some r.installLive, key := r.key, cueSafe := some r.cueSafe
        ringWatch := some r.ringWatch, ringThreshold := some r.ringThreshold, persistence := some r.persistence
        release := some r.release }
      factoryZone with
  | some v => if listen? r.listen = some v.listen then some v else none
  | none => none

/-- A stored cue as WRITE-CUE takes it (R73). -/
def loadCue? (r : StoredCue) : Option Cue :=
  acceptCue? r.label r.entries

/-- Whether two bins are within 1 of each other (R150, R198). -/
def binsClose (a b : Nat) : Bool :=
  a ≤ b + 1 && b ≤ a + 1

/-- Whether no two of a list of stored notches stand in one slot or have bins within 1 of each other (R198). -/
def notchesApart? : List StoredNotch → Bool
  | [] => true
  | n :: ns => ns.all (fun m => m.slot ≠ n.slot && !binsClose n.bin m.bin) && notchesApart? ns

/-- A stored notch as PIN-NOTCH takes it (R161), in a slot of 0..7. -/
def notchAcceptable (n : StoredNotch) : Bool :=
  n.slot ≤ 7 && 4 ≤ n.bin && n.bin ≤ 511

/-- A zone's stored notches, each in its slot, its depth and width clamped (R161). -/
def loadNotches (ns : List StoredNotch) : Table (Option FixedNotch) 8 :=
  Table.ofFn fun k =>
    (ns.find? fun n => n.slot = k.1).map fun n =>
      { bin := n.bin, depth := clampNotchDepth n.depth, width := clampNotchWidth n.width }

/-- The third check of R198: nothing stored that its owning request would refuse RANGE, cue 0 defined, every listen set
with its home precinct, and the notches of each zone apart. -/
def snapshotAcceptable (n : Snapshot) : Bool :=
  n.inputs.cells.all (fun r => (loadInput? r).isSome)
    && n.precincts.cells.all (fun r => (loadPrecinct? r).isSome)
    && n.zones.cells.all (fun r => (loadZone? r).isSome)
    && n.presets.cells.all (fun r => (acceptBands? r).isSome)
    && n.cues.cells.all (fun c => c.all fun r => (loadCue? r).isSome)
    && (n.cues.get 0).isSome
    && n.notches.cells.all (fun ns => ns.all notchAcceptable && notchesApart? ns)

/-- The four checks of R198, in their order. -/
def imageLoads (f : FlashImage) : Bool :=
  f.answers && f.mark = Config.imageMark && f.sum = imageSum f.mark f.snapshot && snapshotAcceptable f.snapshot

/-- The working copy that a snapshot becomes, every quantity clamped as its owning request would clamp it (R198). A record
that its check refuses does not come to be loaded; its factory default stands here. -/
def loadSnapshot (n : Snapshot) : WorkingCopy where
  inputs := n.inputs.map fun r => (loadInput? r).getD factoryInput
  precincts := n.precincts.map fun r => (loadPrecinct? r).getD factoryPrecinct
  zones := n.zones.map fun r => (loadZone? r).getD factoryZone
  geometry := n.geometry.map (Table.map clampDistance)
  presets := n.presets.map fun r => (acceptBands? r).getD []
  cues := n.cues.map fun c => c.bind loadCue?
  notches := n.notches.map loadNotches

/-! ## A working copy in range

Every quantity of a working copy clamped as its owning request would clamp it. No request leaves one out of range:
`Safety.InstallationInRange`. -/

def clampInput (v : InputSettings) : InputSettings :=
  { v with
    trim := clampInputTrim v.trim
    threshold := clampThreshold v.threshold
    closedAtt := clampClosedAtt v.closedAtt
    hold := clampHold v.hold }

def clampPrecinct (v : PrecinctSettings) : PrecinctSettings :=
  { v with maxnom := clampMaxnom v.maxnom }

def clampZone (v : ZoneSettings) : ZoneSettings :=
  { v with
    ceiling := clampCeiling v.ceiling
    trim := clampZoneTrim v.trim
    duck := clampDuck v.duck
    precedence := clampPrecedence v.precedence
    standbyDelay := clampStandbyDelay v.standbyDelay
    wakeTime := clampWakeTime v.wakeTime
    ringThreshold := clampRingThreshold v.ringThreshold
    persistence := clampPersistence v.persistence
    release := clampRelease v.release }

/-- A band as SET-EQ would store it: a band that takes a gain and has none gets 0 (R173). -/
def clampBand (b : EqBand) : EqBand where
  kind := b.kind
  frequency := clampFrequency b.frequency
  gain := if b.kind = .highPass then none else some (clampBandGain (b.gain.getD 0))
  width := clampBandWidth b.width

def clampEntry : CueEntry → CueEntry
  | .place i z level rate preset delay =>
    .place i z (clampLevel level) (rate.map clampRate) preset (delay.map clampDelay)
  | .set i z level rate preset delay =>
    .set i z (level.map clampLevel) (rate.map clampRate) preset (clampEdit delay)
  | .retire i z => .retire i z
  | .zone z on => .zone z on
  | .notify => .notify

def clampCue (c : Cue) : Cue where
  label := c.label.bind storedLabel
  entries := c.entries.map clampEntry

def clampNotch (n : FixedNotch) : FixedNotch :=
  { n with depth := clampNotchDepth n.depth, width := clampNotchWidth n.width }

/-- Every quantity of a working copy clamped. -/
def clampWorking (w : WorkingCopy) : WorkingCopy where
  inputs := w.inputs.map clampInput
  precincts := w.precincts.map clampPrecinct
  zones := w.zones.map clampZone
  geometry := w.geometry.map (Table.map clampDistance)
  presets := w.presets.map (List.map clampBand)
  cues := w.cues.map (Option.map clampCue)
  notches := w.notches.map (Table.map (Option.map clampNotch))

/-- The working copy a start-up loads (R198): the image's, clamped, or the factory defaults. -/
def loadedCopy (f : FlashImage) : WorkingCopy :=
  if imageLoads f then loadSnapshot f.snapshot else factoryDefaults

/-! ## What the start-up sequence sets (R141, R167, R180) -/

/-- A line as a start-up samples it: the debounced level is the raw level at once (R129, R141). -/
def Line.sample (l : Line) : Line :=
  { l with settled := l.raw, count := none }

/-- One zone as a start-up sets it up, with its sampled lines (R141). -/
def startZone (keys : Table Line 16) (v : ZoneSettings) (amp : Line) : ZoneLive :=
  let keyLive :=
    match v.key with
    | some k => (keys.get k).raw
    | none => false
  { power := if amp.raw then .standby else .absent
    ampEnabled := false
    controllerLive := false
    keyLive := keyLive
    live := v.installLive || keyLive
    demandPresent := false
    timer := .none }

/-- The zone controller's part of a start-up (R141). -/
def startZones (w : WorkingCopy) (p : ZoneController) : ZoneController where
  zones := Table.zipWith (startZone p.keys) w.zones p.amps
  amps := p.amps.map Line.sample
  keys := p.keys.map Line.sample

/-- A zone's FIXED notches as a start-up sets them, by ascending slot (R167). -/
def startNotches (t : Table (Option FixedNotch) 8) : List Notch :=
  (List.finRange 8).filterMap fun k =>
    (t.get k).map fun n =>
      { slot := k, kind := .fixed n.width, bin := n.bin, depth := n.depth, sinceHit := 0, fresh := true }

/-- The ring detector's part of a start-up (R167); `blocks` says whether a block has begun with it. -/
def startRings (w : WorkingCopy) (blocks : Option Nat) : RingDetector where
  zones := w.notches.map fun t => { Ring.quiet with notches := startNotches t }
  frames := Table.fill 24 ZoneFrame.empty
  blocks := blocks

/-- The signal engine's part of a RESTART (R180): the clock is kept, and so is the block under way, with its taps, its
buses and its peak measure, since block completions go on without a break and the routes of the emptied table stop
contributing from the next block (R26). -/
def SignalEngine.restarted (g : SignalEngine) : SignalEngine :=
  { SignalEngine.atPowerOn with
    elapsed := g.elapsed
    peaks := g.peaks
    taps := g.taps
    buses := g.buses
    clock := g.clock }

/-! ## The sequences (R200, R201) -/

/-- The start-up sequence of a part held in power-on (R200). Its last step raises DEFAULTS where it is due, then
RESTARTED. -/
def startUp (s : State) : State :=
  let w := loadedCopy s.store.flash
  let t : State :=
    { run := .running
      engine := RouteEngine.atStart
      gates := GateUnit.atStart
      power := startZones w s.power
      ring := startRings w (some 0)
      signal := SignalEngine.atPowerOn
      port := Port.atStart
      store := { working := w, flash := s.store.flash, writing := none }
      pending := s.pending }
  (t.raiseIf (!imageLoads s.store.flash) .defaults).raise .restarted

/-- START_UP_SEQUENCE (R200): RST_L has returned high, or power is up with RST_L high; a running part has had it. -/
def execStartUpSequence (s : State) : Host.Outcome State Fault Refusal :=
  .next
    (match s.run with
    | .off | .held => startUp s
    | .running => s)

/-- The start-up sequence of a RESTART (R201), one event: working copy, clock and store state are kept. -/
def restart (s : State) : State :=
  let t : State :=
    { s with
      engine := RouteEngine.atStart
      gates := GateUnit.atStart
      power := startZones s.store.working s.power
      ring := startRings s.store.working none
      signal := s.signal.restarted
      port := Port.atStart }
  t.raise .restarted

/-- The sequence is taken once the RESTART's answer has been sent in full (R186). DESIGN CHOICE: a scan whose frame has
completed since that answer is abandoned by it, without an answer (notes/assumptions/28.md). -/
def restartDue (s : State) : State :=
  match s.port.restart with
  | .due => restart s
  | .none | .answering => s

/-- RESTART_SEQUENCE (R201). -/
def execRestartSequence (s : State) : Host.Outcome State Fault Refusal :=
  .next (whenRunning restartDue s)

/-! ## RST_L and power (R200, R103, R197) -/

/-- A zone while RST_L is low: STANDBY, no timer, its enable released (R200). -/
def holdZone (l : ZoneLive) : ZoneLive :=
  { l with power := .standby, ampEnabled := false, timer := .none }

/-- The port while RST_L is low: IDLE and hunting, nothing in progress or waiting, driver and ATTN_L released
(R182, R189). -/
def holdPort (p : Port) : Port :=
  { p with
    phase := .hunting
    partFrame := []
    gap := none
    inProgress := none
    answers := []
    driver := false
    attnLow := false
    restart := .none }

/-- RST_L is low: the part is held in power-on (R200); the scan is abandoned (R103), a write is cut off (R197). -/
def hold (s : State) : State :=
  { s with
    run := .held
    engine := { s.engine with scan := none }
    power :=
      { zones := s.power.zones.map holdZone
        amps := s.power.amps.map fun l => { l with count := none }
        keys := s.power.keys.map fun l => { l with count := none } }
    ring := { s.ring with frames := s.ring.frames.map fun f => { f with active := false } }
    signal := { s.signal with buses := Table.fill 24 none, outputs := Table.fill 24 0 }
    port := holdPort s.port
    store := cutWrite s.store }

/-- RST_L_LOW (R200): RST_L goes low, or power comes up. -/
def execRstLLow (s : State) : Host.Outcome State Fault Refusal :=
  .next (hold s)

/-- Power is lost (R197): the flash and the levels of the outside lines are all that stays. -/
def powerDown (s : State) : State where
  run := .off
  engine := { RouteEngine.atStart with queue := [] }
  gates := GateUnit.atStart
  power :=
    { zones := Table.fill 24 ZoneLive.resting
      amps := s.power.amps.map Line.sample
      keys := s.power.keys.map Line.sample }
  ring := startRings factoryDefaults none
  signal := SignalEngine.atPowerOn
  port := Port.atStart
  store := { working := factoryDefaults, flash := s.store.flash, writing := none }
  pending := s.pending

/-- POWER_LOSS (R197). -/
def execPowerLoss (s : State) : Host.Outcome State Fault Refusal :=
  .next (powerDown s)

end Sys2Proof.Machine
end

