-- ==== Sys2Proof/Machine/LinePort.lean ====
section
/-! DEFINITION. The control line (chapter 10): bytes and framing, the checks of a frame, answers, and the port's own
requests. -/

namespace Sys2Proof.Machine

/-! ## The port's own requests (10.4) -/

/-- The NOTICES answer: the notice word, then the last NOTIFY cue number, 0 when absent (10.6). -/
def noticesBody (p : Port) : List Byte :=
  noticeWord p.notices ++ presence [p.lastNotify.isSome] ++ u8 ((p.lastNotify.map fun c => c.1).getD 0)

/-- The port takes NOTICES: the set is answered and cleared in one event (R190). -/
def takeNotices (s : State) : State × Reply :=
  (s.setPort ({ s.port with notices := 0 } : Port).refreshAttn, some (.ok, noticesBody s.port))

/-- NOTICES (R190). -/
def execNotices (s : State) : Host.Outcome State Fault Refusal :=
  .next (onRequest Kind.notices takeNotices s)

/-- The port takes SET-NOTICE-MASK (R191). -/
def takeSetNoticeMask (word : Word16) (s : State) : State × Reply :=
  if word >>> 13 ≠ 0 then (s, plain .range)
  else
    (s.setPort ({ s.port with mask := word.setWidth 13 } : Port).refreshAttn,
      some (.ok, noticeWord (word.setWidth 13)))

/-- SET_NOTICE_MASK (R191). -/
def execSetNoticeMask (word : Word16) (s : State) : Host.Outcome State Fault Refusal :=
  .next (onRequest Kind.setNoticeMask (takeSetNoticeMask word) s)

/-! ## Dispatch to the owners (R186) -/

/-- How the owning block takes a request; none for an event. -/
def ownerOf : Instr → Option (State → State × Reply)
  | .placeRoute i z level rate preset delay => some (takePlaceRoute i z level rate preset delay)
  | .readRoute n => some (takeReadRoute n)
  | .retireRoute n => some (takeRetireRoute n)
  | .stageRoute n base f => some (takeStageRoute n base f)
  | .armRoute n => some (takeArmRoute n)
  | .haltRoute n => some (takeHaltRoute n)
  | .clearRoute n => some (takeClearRoute n)
  | .writeCue c f => some (takeWriteCue c f)
  | .readCue c => some (takeReadCue c)
  | .fireCue c => some (takeFireCue c)
  | .readCueQueue => some takeReadCueQueue
  | .readCueResult => some takeReadCueResult
  | .findRoutes k c m f => some (takeFindRoutes k c m f)
  | .sweepRoutes k c a f level => some (takeSweepRoutes k c a f level)
  | .setInput i f => some (takeSetInput i f)
  | .readInput i => some (takeReadInput i)
  | .setPrecinct p maxnom lastOn => some (takeSetPrecinct p maxnom lastOn)
  | .readPrecinct p => some (takeReadPrecinct p)
  | .setZone z f => some (takeSetZone z f)
  | .readZone z => some (takeReadZone z)
  | .zoneLive z on => some (takeZoneLive z on)
  | .setGeometry st z d => some (takeSetGeometry st z d)
  | .readGeometry st z => some (takeReadGeometry st z)
  | .pinNotch z b d w => some (takePinNotch z b d w)
  | .dropNotch z k => some (takeDropNotch z k)
  | .readNotches z => some (takeReadNotches z)
  | .clearRing z => some (takeClearRing z)
  | .setEq p bands => some (takeSetEq p bands)
  | .readEq p => some (takeReadEq p)
  | .setClock k => some (takeSetClock k)
  | .readClock => some takeReadClock
  | .notices => some takeNotices
  | .setNoticeMask w => some (takeSetNoticeMask w)
  | .store => some takeStore
  | .restart => some takeRestart
  | .unknownKindFrame _ _ | .byteReceived _ | .gapTimeout | .answerSent | .blockCompletion _ _
  | .analysisFrameEnd | .frameResult _ _ | .ampokLineChange _ _ | .ampStatusDebounced _ | .keyLineChange _ _
  | .keyDebounced _ | .wakeTimerExpiry _ | .standbyTimerExpiry _ | .houseClockLost | .houseClockReturned
  | .houseClockLock | .houseClockMove | .storeWriteDone | .storeWriteFailed _ | .storeStageTimeout _ | .rstLLow
  | .powerLoss | .startUpSequence | .restartSequence | .samplePeriod _ => none

/-- The owner of the request that a body spells; none where the body has not the form (R185 order 4). -/
def bodyOwner (kind : Byte) (body : List Byte) : Option (State → State × Reply) :=
  (parseBody kind body).bind ownerOf

/-! ## Taking a frame (R185) -/

/-- The port's own refusal of a frame: a status without a body, echoing the KIND (R185). -/
def State.refuseFrame (s : State) (kind : Byte) (st : Status) : State :=
  s.hand { kind := kind, status := st, body := [] }

/-- Orders 2 to 4 of R185 on a frame whose CHECK is valid, then its dispatch (R186). -/
def takeFrame (kind : Byte) (body : List Byte) (s : State) : State :=
  match s.port.inProgress, knownKinds.contains kind, bodyOwner kind body with
  | some _, _, _ => s.refuseFrame kind .busy
  | none, false, _ => s.refuseFrame kind .unknown
  | none, true, none => s.refuseFrame kind .range
  | none, true, some owner => takeRequest kind owner s

/-- A complete frame, as the bytes after MARK: LENGTH, KIND, the body and CHECK (R185). -/
def completeFrame (bytes : List Byte) (s : State) : State :=
  match bytes with
  | _ :: kind :: rest => if byteSum bytes = 0 then takeFrame kind rest.dropLast s else s.refuseFrame kind .badFrame
  | [_] | [] => s

/-- UNKNOWN_KIND_FRAME (R185): a complete frame whose CHECK is valid. -/
def execUnknownKindFrame (kind : Byte) (body : List Byte) (s : State) : Host.Outcome State Fault Refusal :=
  .next (onFrame (takeFrame kind body) s)

/-! ## Bytes (R183, R184) -/

/-- The port back to hunting, with no partial frame and the gap timer stopped. -/
def Port.hunt (p : Port) : Port :=
  { p with phase := .hunting, partFrame := [], gap := none }

/-- The port at work on a frame, with what it has kept of it, the gap timer started afresh. -/
def Port.collect (p : Port) (kept : List Byte) : Port :=
  { p with phase := .collecting, partFrame := kept, gap := some 0 }

/-- The port discarding, the gap timer started afresh. -/
def Port.discard (p : Port) : Port :=
  { p with phase := .discarding, partFrame := [], gap := some 0 }

/-- Whether a byte can be a LENGTH (R183). -/
def goodLength (b : Byte) : Bool :=
  1 ≤ b.toNat && b.toNat ≤ 250

/-- A byte kept while collecting: the frame is complete when LENGTH + 1 bytes follow LENGTH (R183). -/
def keepByte (b : Byte) (s : State) : State :=
  let kept := s.port.partFrame ++ [b]
  match s.port.partFrame with
  | [] => if goodLength b then s.setPort (s.port.collect kept) else s.setPort s.port.discard
  | len :: _ =>
    if kept.length = len.toNat + 2 then
      let t := completeFrame kept (s.setPort s.port.hunt)
      t.setPort t.port.beginAnswer
    else s.setPort (s.port.collect kept)

/-- A byte arrives (R183); while the driver is enabled it is lost (R181). -/
def receiveByte (b : Byte) (s : State) : State :=
  if s.port.driver then s
  else
    match s.port.phase with
    | .hunting => if b = MARK then s.setPort (s.port.collect []) else s
    | .collecting => keepByte b s
    | .discarding => s.setPort s.port.discard

/-- BYTE_RECEIVED (R183). -/
def execByteReceived (byte : Byte) (s : State) : Host.Outcome State Fault Refusal :=
  .next (whenRunning (receiveByte byte) s)

/-- The gap timer passes 20 ms (R184): the partial frame is dropped, or the discard ends, and an answer that has been
waiting for the line begins (R181). -/
def gapTimeout (s : State) : State :=
  match s.port.phase with
  | .hunting => s
  | .collecting | .discarding => s.setPort s.port.hunt.beginAnswer

/-- GAP_TIMEOUT (R184). -/
def execGapTimeout (s : State) : Host.Outcome State Fault Refusal :=
  .next (whenRunning gapTimeout s)

/-! ## Answers sent (R181, R187) -/

/-- Where a RESTART stands once an answer has been sent (R186). -/
def restartAfter (a : Answer) (r : RestartState) : RestartState :=
  match r with
  | .answering => if a.kind = Kind.restart ∧ a.status = .ok then .due else .answering
  | .none => .none
  | .due => .due

/-- The answer being sent has gone out in full: the driver is released, and the next answer waiting begins
(R181, R187). -/
def answerSent (s : State) : State :=
  match s.port.driver, s.port.answers with
  | true, a :: rest =>
    s.setPort
      ({ s.port with driver := false, answers := rest, restart := restartAfter a s.port.restart } : Port).beginAnswer
  | true, [] | false, _ => s

/-- ANSWER_SENT (R187). -/
def execAnswerSent (s : State) : Host.Outcome State Fault Refusal :=
  .next (whenRunning answerSent s)

end Sys2Proof.Machine
end

