-- ==== Sys2Proof/Machine/Blocks.lean ====
section
/-! DEFINITION. The block completion (R27): the work of the signal engine, the gate unit and the route engine when a
block of 32 samples has been processed. -/

namespace Sys2Proof.Machine

/-! ## Step 1: flips (R59 to R62) -/

/-- Whether step 1 flips a route: armed, and STEADY or RAMPING (R59). -/
def flips (r : Route) : Bool :=
  r.armed && (match r.state with
    | .steady | .ramping => true
    | .dipping _ | .retiring | .halted _ => false)

/-- Parts 1 to 3 of a flip: the banks exchanged, the arm cleared, the flip indicator inverted (R59). -/
def swapBanks (r : Route) : Route :=
  { r with live := r.staged, staged := r.live, armed := false, flip := !r.flip }

/-- A route after step 1: a flipped route takes the due delay of its new live bank as R60 gives. -/
def State.flipRoute (s : State) (r : Route) : Route :=
  if flips r then retap (s.dueOf (swapBanks r)) (swapBanks r) else r

/-- Step 1: every armed route that is STEADY or RAMPING flips; each flip raises FLIPPED (R62). -/
def flipStep (s : State) : State :=
  (s.mapRoutes s.flipRoute).raiseIf (s.engine.table.any fun c => c.any flips) .flipped

/-! ## Steps 3 and 4: targets and steps -/

/-- Steps 3 and 4 for every occupied slot: each target evaluated from the state before any route is stepped, then each
step with the state change it brings (R27). -/
def State.settleTable (s : State) : Table (Option Route) 256 :=
  s.engine.table.map fun c => c.bind fun r => settleRoute (s.dueOf r) (s.evalTarget r) r

/-! ## Step 5: demand (R40, R41) -/

/-- Every zone's demand count over a stepped table, the other values as step 3 read them. -/
def State.countDemand (s : State) (t : Table (Option Route) 256) : Table Nat 24 :=
  Table.ofFn fun z => s.demandCount t z

/-- The zone controller is told of every count that has left zero or become zero (R41). -/
def State.tellDemand (s : State) (old new : Table Nat 24) : State :=
  (List.finRange 24).foldl (fun s z => s.takeCount z (old.get z) (new.get z)) s

/-- Steps 3 to 5. -/
def settleStep (s : State) : State :=
  let t := s.settleTable
  let counts := s.countDemand t
  (s.setEngine { s.engine with table := t, demand := counts }).tellDemand s.engine.demand counts

/-! ## The whole completion -/

/-- The route engine's work (R27), with the controller-live changes of the take's ZONE entries: the zone controller
takes `zonesFirst` of them before step 3, and the others after step 5 (R85). -/
def routeWork (zonesFirst : Nat) (s : State) : State :=
  let (s, handed) := takeCue (flipStep s)
  let s := settleStep (takeHanded s (handed.take zonesFirst))
  scanStep (takeHanded s (handed.drop zonesFirst))

/-- The gate unit's work, with the block peaks the signal engine has measured (R46, R107). -/
def gateStep (s : State) : State :=
  s.setGates (gateWork (s.signal.peaks.map blockPeak) s.store.working s.gates)

/-- A block completion: the gate unit's work and the route engine's in either order (R28), then the next block begins. A
move to the house clock that still waits is made, for the block has ended (R178). -/
def completeBlock (gateFirst : Bool) (zonesFirst : Nat) (s : State) : State :=
  beginBlock
    (clockMove (if gateFirst then routeWork zonesFirst (gateStep s) else gateStep (routeWork zonesFirst s)))

/-- BLOCK_COMPLETION (R27). -/
def execBlockCompletion (gateFirst : Bool) (zonesFirst : Nat) (s : State) : Host.Outcome State Fault Refusal :=
  .next (whenRunning (completeBlock gateFirst zonesFirst) s)

end Sys2Proof.Machine
end

