-- ==== Sys2Proof/Machine/Dispatch.lean ====
section
/-! DEFINITION. The dispatch: one arm for each row of the opcode table. -/

namespace Sys2Proof.Machine

def exec (i : Instr) (s : State) : Host.Outcome State Fault Refusal :=
  match i with
  | .placeRoute input zone level rate preset delay => Sys2Proof.Machine.execPlaceRoute input zone level rate preset delay s
  | .readRoute name => Sys2Proof.Machine.execReadRoute name s
  | .retireRoute name => Sys2Proof.Machine.execRetireRoute name s
  | .stageRoute name base fields => Sys2Proof.Machine.execStageRoute name base fields s
  | .armRoute name => Sys2Proof.Machine.execArmRoute name s
  | .haltRoute name => Sys2Proof.Machine.execHaltRoute name s
  | .clearRoute name => Sys2Proof.Machine.execClearRoute name s
  | .writeCue cue form => Sys2Proof.Machine.execWriteCue cue form s
  | .readCue cue => Sys2Proof.Machine.execReadCue cue s
  | .fireCue cue => Sys2Proof.Machine.execFireCue cue s
  | .readCueQueue => Sys2Proof.Machine.execReadCueQueue s
  | .readCueResult => Sys2Proof.Machine.execReadCueResult s
  | .findRoutes start count mode sel => Sys2Proof.Machine.execFindRoutes start count mode sel s
  | .sweepRoutes start count action sel level => Sys2Proof.Machine.execSweepRoutes start count action sel level s
  | .setInput input fields => Sys2Proof.Machine.execSetInput input fields s
  | .readInput input => Sys2Proof.Machine.execReadInput input s
  | .setPrecinct precinct maxnom lastOn => Sys2Proof.Machine.execSetPrecinct precinct maxnom lastOn s
  | .readPrecinct precinct => Sys2Proof.Machine.execReadPrecinct precinct s
  | .setZone zone fields => Sys2Proof.Machine.execSetZone zone fields s
  | .readZone zone => Sys2Proof.Machine.execReadZone zone s
  | .zoneLive zone setting => Sys2Proof.Machine.execZoneLive zone setting s
  | .setGeometry station zone distance => Sys2Proof.Machine.execSetGeometry station zone distance s
  | .readGeometry station zone => Sys2Proof.Machine.execReadGeometry station zone s
  | .pinNotch zone bin depth width => Sys2Proof.Machine.execPinNotch zone bin depth width s
  | .dropNotch zone slot => Sys2Proof.Machine.execDropNotch zone slot s
  | .readNotches zone => Sys2Proof.Machine.execReadNotches zone s
  | .clearRing zone => Sys2Proof.Machine.execClearRing zone s
  | .setEq preset bands => Sys2Proof.Machine.execSetEq preset bands s
  | .readEq preset => Sys2Proof.Machine.execReadEq preset s
  | .setClock setting => Sys2Proof.Machine.execSetClock setting s
  | .readClock => Sys2Proof.Machine.execReadClock s
  | .notices => Sys2Proof.Machine.execNotices s
  | .setNoticeMask word => Sys2Proof.Machine.execSetNoticeMask word s
  | .store => Sys2Proof.Machine.execStore s
  | .restart => Sys2Proof.Machine.execRestart s
  | .unknownKindFrame kind body => Sys2Proof.Machine.execUnknownKindFrame kind body s
  | .byteReceived byte => Sys2Proof.Machine.execByteReceived byte s
  | .gapTimeout => Sys2Proof.Machine.execGapTimeout s
  | .answerSent => Sys2Proof.Machine.execAnswerSent s
  | .blockCompletion gateFirst zonesFirst => Sys2Proof.Machine.execBlockCompletion gateFirst zonesFirst s
  | .analysisFrameEnd => Sys2Proof.Machine.execAnalysisFrameEnd s
  | .frameResult zone levels => Sys2Proof.Machine.execFrameResult zone levels s
  | .ampokLineChange zone ok => Sys2Proof.Machine.execAmpokLineChange zone ok s
  | .ampStatusDebounced zone => Sys2Proof.Machine.execAmpStatusDebounced zone s
  | .keyLineChange key on => Sys2Proof.Machine.execKeyLineChange key on s
  | .keyDebounced key => Sys2Proof.Machine.execKeyDebounced key s
  | .wakeTimerExpiry zone => Sys2Proof.Machine.execWakeTimerExpiry zone s
  | .standbyTimerExpiry zone => Sys2Proof.Machine.execStandbyTimerExpiry zone s
  | .houseClockLost => Sys2Proof.Machine.execHouseClockLost s
  | .houseClockReturned => Sys2Proof.Machine.execHouseClockReturned s
  | .houseClockLock => Sys2Proof.Machine.execHouseClockLock s
  | .houseClockMove => Sys2Proof.Machine.execHouseClockMove s
  | .storeWriteDone => Sys2Proof.Machine.execStoreWriteDone s
  | .storeWriteFailed left => Sys2Proof.Machine.execStoreWriteFailed left s
  | .storeStageTimeout left => Sys2Proof.Machine.execStoreStageTimeout left s
  | .rstLLow => Sys2Proof.Machine.execRstLLow s
  | .powerLoss => Sys2Proof.Machine.execPowerLoss s
  | .startUpSequence => Sys2Proof.Machine.execStartUpSequence s
  | .restartSequence => Sys2Proof.Machine.execRestartSequence s
  | .samplePeriod ain => Sys2Proof.Machine.execSamplePeriod ain s

end Sys2Proof.Machine
end

