-- ==== Sys2Proof/Safety.lean ====
section
/-! DEFINITION. What a safe part is: the twelve laws of the device, each with what it needs to be kept by every step,
and the rules that hold the other blocks' state together. Every statement of the manual that begins "at any moment"
or "exactly when" stands here as a predicate of the state. -/

namespace Sys2Proof.Safety

open Sys2Proof.Machine

/-! ## Requests -/

/-- The part takes a request on arrival: it runs, its port is hunting with the driver released, so that the frame
reaches it, and no request is in progress (R181, R185, R186). -/
def Ready (s : State) : Prop :=
  s.run = .running ∧ s.port.inProgress = none ∧ s.port.listening = true

/-- The state with an answer handed to the transmitter (R187). -/
def answered (s : State) (kind : Byte) (st : Status) (body : List Byte) : State :=
  s.hand { kind := kind, status := st, body := body }

/-- A number that names none of `n` things numbered from 1. -/
def outside (n k : Nat) : Prop :=
  k = 0 ∨ n < k

/-- The two bytes of a body at an offset, most significant first (R193). -/
def wordAt (bs : List Byte) (k : Nat) : Nat :=
  256 * (bs.getD k 0).toNat + (bs.getD (k + 1) 0).toNat

/-- The two bytes of a number, most significant first (R193). -/
def wordBytes (n : Nat) : List Byte :=
  [BitVec.ofNat 8 (n / 256), BitVec.ofNat 8 n]

/-- The two bytes of a signed number, two's complement (R193). -/
def signedBytes (x : Int) : List Byte :=
  wordBytes (x % 65536).toNat

/-- How many of the 256 slots are of a kind. -/
def slotCount (p : SlotIx → Bool) : Nat :=
  ((List.finRange 256).filter p).length

/-- The commands that reach a part that is not running: the levels of its outside lines, its reset and power, and
the start-up sequence (R200). -/
def reachesStopped : Instr → Bool
  | .ampokLineChange _ _ | .keyLineChange _ _ | .rstLLow | .powerLoss | .startUpSequence => true
  | _ => false

/-! ## The route table -/

/-- The first law (R2): no two records share a key. -/
def DistinctKeys (s : State) : Prop :=
  ∀ j k a b, s.route? j = some a → s.route? k = some b → a.input = b.input → a.zone = b.zone → j = k

/-- A gain within −480..+48 qdB. -/
def gainInRange (g : Int) : Prop :=
  -480 ≤ g ∧ g ≤ 48

/-- The second law (R30, R38), with the ranges that hold it: every level, target and current in −480..+48, every
ceiling in −96..+48. -/
def GainsInRange (s : State) : Prop :=
  (∀ k r, s.route? k = some r →
    gainInRange r.current ∧ gainInRange r.target ∧ gainInRange r.live.level ∧ gainInRange r.staged.level)
  ∧ ∀ z, -96 ≤ (s.zoneSettings z).ceiling ∧ (s.zoneSettings z).ceiling ≤ 48

/-- The fourth law (R18): every route that is not RETIRING joins an input whose precinct is in its zone's listen
set. -/
def RoutesListened (s : State) : Prop :=
  ∀ k r, s.route? k = some r → r.state ≠ .retiring →
    listens (s.zoneSettings r.zone).listen (s.inputSettings r.input).precinct = true

/-- The sixth law (R57): an armed route is neither RETIRING nor HALTED. -/
def ArmedRoutesCanFlip (s : State) : Prop :=
  ∀ k r, s.route? k = some r → r.armed = true → r.state ≠ .retiring ∧ ∀ c, r.state ≠ .halted c

/-- Every delay of a route: in use, pending and overriding. -/
def delaysInRange (r : Route) : Prop :=
  r.delay ≤ 24000 ∧ (∀ d, r.state = .dipping d → d ≤ 24000) ∧ (∀ d, r.live.delay = some d → d ≤ 24000)
    ∧ ∀ d, r.staged.delay = some d → d ≤ 24000

/-- The seventh law (R49), with the ranges that hold it: every delay within the delay line, every distance and
precedence in its range. -/
def DelaysInLine (s : State) : Prop :=
  (∀ k r, s.route? k = some r → delaysInRange r)
  ∧ (∀ st z, s.distance st z ≤ 15000)
  ∧ ∀ z, (s.zoneSettings z).precedence ≤ 300

/-- The tenth law (R21), and that an ABSENT zone holds no routes (R142): into a zone in FAULT or runaway every route
is RETIRING or HALTED. -/
def BarredZonesSilent (s : State) : Prop :=
  ∀ k r, s.route? k = some r →
    (s.zoneLive r.zone).power ≠ .absent
    ∧ ((s.zoneLive r.zone).power = .fault ∨ (s.ringOf r.zone).runaway = true →
        r.state = .retiring ∨ ∃ c, r.state = .halted c)

/-! ## Cues -/

/-- The eleventh law (R76): at most four numbers, each of a defined cue; with the rule that holds it, cue 0 always
defined (R73, R198). -/
def QueueOfDefinedCues (s : State) : Prop :=
  s.engine.queue.length ≤ 4 ∧ (∀ c ∈ s.engine.queue, s.cue? c ≠ none) ∧ s.cue? 0 ≠ none

/-! ## Gates -/

/-- The fifth law (R112), both ways: an open list holds no input twice, is never longer than MAXNOM, and holds
exactly the AUTO inputs of its precinct that are OPEN or HOLD; the gate machine of an input that is not AUTO stays
CLOSED (R106). -/
def OpenListsTrue (s : State) : Prop :=
  (∀ p, (s.listOf p).Nodup ∧ (s.listOf p).length ≤ (s.precinctSettings p).maxnom)
  ∧ (∀ p i, i ∈ s.listOf p ↔
      (s.inputSettings i).precinct = p ∧ (s.inputSettings i).mode = .auto ∧ (s.gates.inputs.get i).gate ≠ .closed)
  ∧ ∀ i, (s.inputSettings i).mode ≠ .auto → (s.gates.inputs.get i).gate = .closed

/-! ## Zones -/

/-- The twelfth law (R131): a zone's amplifier enable is asserted exactly when the zone is WAKING or ACTIVE. -/
def enableTrue (l : ZoneLive) : Prop :=
  l.ampEnabled = true ↔ l.power = .waking ∨ l.power = .active

/-- The timer that a zone's state calls for: WAKE in WAKING (R133), STANDBY in ACTIVE exactly when demand is absent
and the standby delay is not 0 (R135), none elsewhere. -/
def timerTrue (v : ZoneSettings) (l : ZoneLive) : Prop :=
  match l.power, l.timer with
  | .waking, .wake _ => True
  | .active, .standby _ => l.demandPresent = false ∧ v.standbyDelay ≠ 0
  | .active, .none => l.demandPresent = true ∨ v.standbyDelay = 0
  | .absent, .none | .standby, .none | .fault, .none => True
  | .waking, .none | .waking, .standby _ | .active, .wake _ | .absent, .wake _ | .absent, .standby _
  | .standby, .wake _ | .standby, .standby _ | .fault, .wake _ | .fault, .standby _ => False

/-- The live condition (R127): switched on by the installation, the controller or a key. -/
def liveTrue (v : ZoneSettings) (l : ZoneLive) : Prop :=
  l.live = (v.installLive || l.controllerLive || l.keyLive)

/-- The zone controller's rules for every zone: the twelfth law, the timers, the live condition, key-live following the
debounced level of the key the record names (R128), and the demand-present mark following the demand count
(R132). -/
def ZonesTrue (s : State) : Prop :=
  ∀ z,
    enableTrue (s.zoneLive z)
    ∧ timerTrue (s.zoneSettings z) (s.zoneLive z)
    ∧ liveTrue (s.zoneSettings z) (s.zoneLive z)
    ∧ (s.zoneLive z).keyLive = s.keyReading (s.zoneSettings z).key
    ∧ ((s.zoneLive z).demandPresent = true ↔ 0 < s.engine.demand.get z)

/-- A zone's listen set holds its home precinct (R126). -/
def HomesListened (s : State) : Prop :=
  ∀ z, listens (s.zoneSettings z).listen (s.zoneSettings z).home = true

/-! ## Ring control -/

/-- Two notches stand apart: in slots of their own, with bins not within 1 of each other (R150). -/
def notchesApart (m n : Notch) : Prop :=
  m.slot ≠ n.slot ∧ (m.bin + 1 < n.bin ∨ n.bin + 1 < m.bin)

/-- A notch's own ranges: its bin in 4..511, its depth in 12..72, and for a DYNAMIC notch in steps of 12
(R150, R155, R159). -/
def notchInRange (n : Notch) : Prop :=
  4 ≤ n.bin ∧ n.bin ≤ 511 ∧ 12 ≤ n.depth ∧ n.depth ≤ 72 ∧ (n.kind = .dynamic → n.depth % 12 = 0)

/-- The eighth law (R150), with what it needs: the FIXED notches of the working copy are those of the list, each in
its slot. -/
def NotchesTrue (s : State) : Prop :=
  ∀ z,
    (s.ringOf z).notches.Pairwise notchesApart
    ∧ (∀ n ∈ (s.ringOf z).notches, notchInRange n)
    ∧ s.store.working.notches.get z = storedNotches (s.ringOf z).notches

/-- The ninth law (R157): a margin in 0..48, and 48 in runaway. -/
def MarginsTrue (s : State) : Prop :=
  ∀ z, (s.ringOf z).margin ≤ 48 ∧ ((s.ringOf z).runaway = true → (s.ringOf z).margin = 48)

/-! ## Signal path and clock -/

/-- Every delay line is in its one form, and every sample sent lies in the 24-bit range (R45, R169). -/
def SamplesTrue (s : State) : Prop :=
  (∀ i, lineWf (s.signal.lines.get i) = true)
  ∧ ∀ z, -8388608 ≤ s.signal.outputs.get z ∧ s.signal.outputs.get z ≤ 8388607

/-- The clock's fields agree (R177, R178): INTERNAL status exactly with INTERNAL setting; the part is on the house
clock, or about to move to it, exactly while LOCKED; LOCKED only while the house clock is present; no time present
while it is absent, and at most 1 s. -/
def ClockTrue (s : State) : Prop :=
  let c := s.signal.clock
  (c.status = .internal ↔ c.setting = .internal)
  ∧ (c.source = .house → c.status = .locked ∧ c.moving = false)
  ∧ (c.moving = true → c.status = .locked)
  ∧ (c.status = .locked → c.present = true ∧ (c.source = .house ∨ c.moving = true))
  ∧ (c.present = false → c.timePresent = 0)
  ∧ c.timePresent ≤ 48000

/-! ## The control line -/

/-- Framing (R182, R183): the gap timer is stopped exactly while hunting, only a frame being collected holds bytes,
with its LENGTH in 1..250 and not yet complete, and the driver sends the first of the waiting answers, only while
hunting (R181). -/
def FramingTrue (s : State) : Prop :=
  (s.port.phase = .hunting ↔ s.port.gap = none)
  ∧ (s.port.phase ≠ .collecting → s.port.partFrame = [])
  ∧ (∀ b bs, s.port.partFrame = b :: bs → goodLength b = true ∧ bs.length ≤ b.toNat)
  ∧ (s.port.driver = true ↔ s.port.phase = .hunting ∧ s.port.answers ≠ [])

/-- A request in progress between two steps is a scan, and the route engine holds it (R93, R186). -/
def ScanTrue (s : State) : Prop :=
  s.port.inProgress = s.engine.scan.map fun sc => { kind := sc.job.kind, scan := true }

/-- At most two answers wait, that of the request in progress counted before it is handed over, and at most one while a
frame is being collected or discarded (R187). -/
def AnswersFew (s : State) : Prop :=
  s.port.answers.length + (if s.port.inProgress.isSome then 1 else 0) ≤ 2
  ∧ (s.port.phase ≠ .hunting → s.port.answers.length + (if s.port.inProgress.isSome then 1 else 0) ≤ 1)

/-- ATTN_L is low exactly while the part runs and a notice is both set and enabled (R189). -/
def AttentionTrue (s : State) : Prop :=
  s.port.attnLow = (decide (s.run = .running) && attention s.port.notices s.port.mask)

/-! ## The installation -/

/-- A FIXED notch's depth in 12..72 and width in 1..10 (R161). -/
def fixedInRange (n : Notch) : Prop :=
  ∀ w, n.kind = .fixed w → 12 ≤ n.depth ∧ n.depth ≤ 72 ∧ 1 ≤ w ∧ w ≤ 10

/-- The whole installation in range: every quantity of the working copy is one its owning request stores unclamped
(R104, R112, R125, R148, R161, R171), and so is every count and text of it (R71, R171); and with it the FIXED
notches that the ring detector holds. -/
def InstallationInRange (s : State) : Prop :=
  clampWorking s.store.working = s.store.working
  ∧ (∀ c v, s.cue? c = some v → cueAcceptable v = true)
  ∧ (∀ p, bandsAcceptable (s.store.working.presets.get p) = true)
  ∧ ∀ z, ∀ n ∈ (s.ringOf z).notches, fixedInRange n

end Sys2Proof.Safety
end

