-- ==== Sys2Proof/Certificates/Slice0/Obligations.lean ====
section
/-! DEFINITION. The statements about the model, in the order of the manual's chapters: the queue and the requests as
such, routes, cues, scans, inputs, zones, ring control, signal path and clock, the control line, the store and
start-up; then the laws that every step keeps. -/

open Sys2Proof Sys2Proof.Machine Sys2Proof.Safety

/-! ## Commands as such -/

/-- A step runs the command at the front of the queue, with the queue's rest; an empty queue idles. The idling is the
model's own choice (notes/assumptions/2.md). -/
def Obligations.StepTakesFrontCommand : Prop :=
  (∀ c s, step { s with pending := c :: s.pending } = exec c s) ∧ ∀ s, s.pending = [] → step s = .next s

/-- An answer handed to the transmitter goes behind those already waiting; the driver is enabled at once exactly when
the port is hunting or was already sending; nothing else changes. Every request that reaches a running part while
another is in progress is answered BUSY, echoing its KIND, and changes nothing else; so is a frame of an unknown KIND. A
frame that comes while the port is not hunting or drives the line is lost, and so is one that reaches a part that does
not run (R102, R181, R185, R187). That a request row stands for a whole frame which reaches the port so or not at all is
the model's own choice (notes/assumptions/8.md). -/
def Obligations.BusyAnswersQueueInOrder : Prop :=
  (∀ s kind st body,
      (answered s kind st body).port.answers = s.port.answers ++ [{ kind := kind, status := st, body := body }]
      ∧ ((answered s kind st body).port.driver = true ↔ s.port.phase = .hunting ∨ s.port.driver = true)
      ∧ answered s kind st body =
          { s with
            port :=
              { s.port with
                answers := (answered s kind st body).port.answers
                driver := (answered s kind st body).port.driver } })
  ∧ ((∀ (i : Instr) (s : State) (kind : Byte) (body : List Byte) (p : InProgress),
      requestBody i = some (kind, body) → s.run = .running → s.port.phase = .hunting → s.port.driver = false →
      s.port.inProgress = some p → exec i s = .next (answered s kind .busy []))
    ∧ (∀ (s : State) (kind : Byte) (body : List Byte) (p : InProgress),
      s.run = .running → s.port.phase = .hunting → s.port.driver = false → s.port.inProgress = some p →
      exec (.unknownKindFrame kind body) s = .next (answered s kind .busy []))
    ∧ ∀ (i : Instr) (s : State),
      (∃ kind body, requestBody i = some (kind, body) ∨ i = .unknownKindFrame kind body) →
      s.run ≠ .running ∨ s.port.phase ≠ .hunting ∨ s.port.driver = true → exec i s = .next s)

/-- A part without power, or held in power-on, is reached only by the levels of its outside lines, by reset and power,
and by the start-up sequence (R200). That any other step leaves it as it is, where the manual says only that no block
completes and no byte is received, is the model's own choice (notes/assumptions/10.md). -/
def Obligations.StoppedPartHoldsStill : Prop :=
  ∀ i s, s.run ≠ .running → reachesStopped i = false → exec i s = .next s

/-- The reading requests answer the record they name, or RANGE for a number that names none, and change nothing else;
READ-ZONE, which clears CLIP, is not one of them. Each record is laid out field by field (R75, R78, R88, R121, R123,
R149, R163, R174, R179, R193). The places of an answer's fields that the manual leaves open, and the one byte of the
first skip's index, are the model's own choice (notes/assumptions/7.md). -/
def Obligations.ReadsChangeNothing : Prop :=
  (∀ s, Ready s →
    (∀ i : InputIx, exec (.readInput (i.1 + 1)) s = .next (answered s Kind.readInput .ok (s.inputImage i)))
    ∧ (∀ n, outside 32 n → exec (.readInput n) s = .next (answered s Kind.readInput .range []))
    ∧ (∀ p : PrecinctIx,
        exec (.readPrecinct (p.1 + 1)) s = .next (answered s Kind.readPrecinct .ok (s.precinctImage p)))
    ∧ (∀ n, outside 4 n → exec (.readPrecinct n) s = .next (answered s Kind.readPrecinct .range []))
    ∧ (∀ (st : StationIx) (z : ZoneIx),
        exec (.readGeometry (st.1 + 1) (z.1 + 1)) s =
          .next
            (answered s Kind.readGeometry .ok
              (u16 (s.distance st z)
                ++ u16 (geometricDelay (s.distance st z) (s.zoneSettings z).precedence))))
    ∧ (∀ n m, outside 16 n ∨ outside 24 m →
        exec (.readGeometry n m) s = .next (answered s Kind.readGeometry .range []))
    ∧ (∀ z : ZoneIx,
        exec (.readNotches (z.1 + 1)) s = .next (answered s Kind.readNotches .ok (ringImage (s.ringOf z))))
    ∧ (∀ n, outside 24 n → exec (.readNotches n) s = .next (answered s Kind.readNotches .range []))
    ∧ exec (.readEq 0) s = .next (answered s Kind.readEq .ok [0])
    ∧ (∀ p : Fin 15,
        exec (.readEq (p.1 + 1)) s =
          .next (answered s Kind.readEq .ok (listField bandImage (s.store.working.presets.get p))))
    ∧ (∀ n, 15 < n → exec (.readEq n) s = .next (answered s Kind.readEq .range []))
    ∧ exec .readClock s =
        .next
          (answered s Kind.readClock .ok
            (u8 (settingCode s.signal.clock.setting) ++ u8 (clockStatusCode s.signal.clock.status)
              ++ uFlag s.signal.clock.present ++ u8 (min 10 (s.signal.clock.timePresent / 4800))))
    ∧ exec .readCueQueue s =
        .next (answered s Kind.readCueQueue .ok (u8 s.engine.queue.length ++ s.engine.queue.flatMap uIndex))
    ∧ (∀ r, s.engine.result = some r →
        exec .readCueResult s = .next (answered s Kind.readCueResult .ok (resultImage r)))
    ∧ (s.engine.result = none → exec .readCueResult s = .next (answered s Kind.readCueResult .noCue []))
    ∧ (∀ (c : CueIx) (v : Cue), s.cue? c = some v →
        exec (.readCue c.1) s = .next (answered s Kind.readCue .ok (cueImage v)))
    ∧ (∀ c : CueIx, s.cue? c = none → exec (.readCue c.1) s = .next (answered s Kind.readCue .noCue []))
    ∧ ∀ n, 63 < n → exec (.readCue n) s = .next (answered s Kind.readCue .range []))
  ∧ (∀ (s : State) (i : InputIx) (v : InputSettings) (g : GateLive) (list : List InputIx),
      v = s.inputSettings i → g = s.gates.inputs.get i → list = s.listOf v.precinct →
      s.inputImage i =
        [BitVec.ofNat 8 (classCode v.cls), BitVec.ofNat 8 (modeCode v.mode), BitVec.ofNat 8 (v.precinct.1 + 1),
          BitVec.ofNat 8 (v.station.1 + 1)]
        ++ signedBytes v.trim ++ signedBytes v.threshold ++ signedBytes v.closedAtt ++ wordBytes v.hold
        ++ [BitVec.ofNat 8
            (match v.mode with
            | .auto => gateCode g.gate
            | .fixed => 1
            | .muted => 0)]
        ++ wordBytes (if v.mode = .auto then g.counter else 0) ++ signedBytes g.peak
        ++ if i ∈ list then [1, BitVec.ofNat 8 (list.idxOf i + 1)] else [0])
  ∧ (∀ (s : State) (p : PrecinctIx),
      s.precinctImage p =
        [BitVec.ofNat 8 (s.precinctSettings p).maxnom, if (s.precinctSettings p).lastOn then 1 else 0,
          BitVec.ofNat 8 (s.listOf p).length]
        ++ (s.listOf p).flatMap fun i =>
          [BitVec.ofNat 8 (i.1 + 1), BitVec.ofNat 8 (gateCode (s.gateOf i))] ++ wordBytes (s.counterOf i))
  ∧ (∀ (slot : NotchIx) (bin sinceHit : Nat) (depth : Int) (fresh : Bool),
      notchImage { slot := slot, kind := .dynamic, bin := bin, depth := depth, sinceHit := sinceHit, fresh := fresh } =
        [BitVec.ofNat 8 slot.1, 1] ++ wordBytes bin ++ signedBytes depth ++ wordBytes sinceHit ++ [0]
      ∧ ∀ width,
        notchImage
            { slot := slot, kind := .fixed width, bin := bin, depth := depth, sinceHit := sinceHit, fresh := fresh } =
          [BitVec.ofNat 8 slot.1, 0] ++ wordBytes bin ++ signedBytes depth ++ wordBytes sinceHit
            ++ [1, BitVec.ofNat 8 width])
  ∧ (∀ r : Ring,
      ringImage r =
        [BitVec.ofNat 8 r.notches.length] ++ r.notches.flatMap notchImage ++ [BitVec.ofNat 8 r.count]
        ++ signedBytes r.margin ++ [if r.runaway then 1 else 0] ++ wordBytes r.sinceConfirm
        ++ match r.candidate with
          | none => [0]
          | some b => 1 :: wordBytes b)
  ∧ (∀ b : EqBand,
      bandImage b =
        [BitVec.ofNat 8 (bandKindCode b.kind)] ++ wordBytes b.frequency ++ [BitVec.ofNat 8 b.width]
        ++ match b.gain with
          | none => [0]
          | some g => 1 :: signedBytes g)
  ∧ (∀ r : CueResult,
      resultImage r =
        [BitVec.ofNat 8 r.cue.1] ++ wordBytes r.applied ++ wordBytes r.skipped
        ++ match r.firstSkip with
          | none => [0]
          | some (n, st) => [1, BitVec.ofNat 8 n, statusCode st])
  ∧ (∀ v : Cue,
      cueImage v =
        [BitVec.ofNat 8 v.entries.length] ++ v.entries.flatMap entryImage
        ++ match v.label with
          | none => [0]
          | some text => [1, BitVec.ofNat 8 text.length] ++ text)
  ∧ (∀ (i : InputIx) (z : ZoneIx) (rate : Option Nat) (preset : Option PresetIx) (fields : List Byte),
      fields = ((rate.map (BitVec.ofNat 8)).toList ++ (preset.map fun p => BitVec.ofNat 8 p.1).toList) →
      (∀ (level : Int) (delay : Option Nat),
        entryImage (.place i z level rate preset delay) =
          [0, BitVec.ofNat 8 (i.1 + 1), BitVec.ofNat 8 (z.1 + 1)] ++ signedBytes level
          ++ [BitVec.ofNat 8 (flagCode rate.isSome + 2 * flagCode preset.isSome + 4 * flagCode delay.isSome)]
          ++ fields ++ (delay.map wordBytes).getD [])
      ∧ (∀ (level : Option Int) (edit : DelayEdit),
        entryImage (.set i z level rate preset edit) =
          [1, BitVec.ofNat 8 (i.1 + 1), BitVec.ofNat 8 (z.1 + 1),
            BitVec.ofNat 8
              (flagCode level.isSome + 2 * flagCode rate.isSome + 4 * flagCode preset.isSome
                + match edit with
                  | .keep => 0
                  | .override _ => 8
                  | .geometric => 16)]
          ++ (level.map signedBytes).getD [] ++ fields
          ++ match edit with
            | .keep | .geometric => []
            | .override d => wordBytes d)
      ∧ entryImage (.retire i z) = [2, BitVec.ofNat 8 (i.1 + 1), BitVec.ofNat 8 (z.1 + 1)]
      ∧ ∀ on : Bool, entryImage (.zone z on) = [3, BitVec.ofNat 8 (z.1 + 1), if on then 1 else 0])
  ∧ entryImage .notify = [4]

/-! ## Routes (chapters 1 and 3) -/

/-- READ-ROUTE answers the record image, and the image is the 26 bytes of R194's table, field by field; the routes are
left as they are (R23, R194). -/
def Obligations.RouteImageLaidOut : Prop :=
  (∀ (s : State) (name : RouteName) (k : SlotIx) (r : Route), Ready s → s.findRoute name = .ok (k, r) →
    exec (.readRoute name) s = .next (answered s Kind.readRoute .ok (routeImage k r)))
  ∧ ∀ (k : SlotIx) (r : Route),
    (routeImage k r).length = 26
    ∧ ((routeImage k r).getD 0 0).toNat = k.1
    ∧ ((routeImage k r).getD 1 0).toNat = r.input.1 + 1
    ∧ ((routeImage k r).getD 2 0).toNat = r.zone.1 + 1
    ∧ ((routeImage k r).getD 3 0).toNat = slotStateCode (slotState r.state)
    ∧ ((routeImage k r).getD 4 0).toNat =
        flagCode r.armed + 2 * flagCode r.flip + 4 * flagCode r.limited + 8 * flagCode r.pending.isSome
          + 16 * flagCode r.live.delay.isSome + 32 * flagCode r.staged.delay.isSome
    ∧ ((routeImage k r).getD 5 0).toNat = (r.cause.map causeCode).getD 0
    ∧ (wordAt (routeImage k r) 6 : Int) = r.current % 65536
    ∧ (wordAt (routeImage k r) 8 : Int) = r.target % 65536
    ∧ wordAt (routeImage k r) 10 = r.delay % 65536
    ∧ wordAt (routeImage k r) 12 = r.pending.getD 0 % 65536
    ∧ (wordAt (routeImage k r) 14 : Int) = r.live.level % 65536
    ∧ ((routeImage k r).getD 16 0).toNat = r.live.rate % 256
    ∧ ((routeImage k r).getD 17 0).toNat = r.live.preset.1
    ∧ wordAt (routeImage k r) 18 = r.live.delay.getD 0 % 65536
    ∧ (wordAt (routeImage k r) 20 : Int) = r.staged.level % 65536
    ∧ ((routeImage k r).getD 22 0).toNat = r.staged.rate % 256
    ∧ ((routeImage k r).getD 23 0).toNat = r.staged.preset.1
    ∧ wordAt (routeImage k r) 24 = r.staged.delay.getD 0 % 65536

/-- A route is named by slot or by key: every slot is in range, an input or zone out of range gives RANGE, a FREE slot
or a key that no record holds gives NO-ROUTE, and a held key finds its record whatever its state. A request that names
no route answers so and changes nothing (R3). -/
def Obligations.RouteNamesFindRoutes : Prop :=
  (∀ (s : State) (k : SlotIx) (r : Route), s.route? k = some r → s.findRoute (.slot k) = .ok (k, r))
  ∧ (∀ (s : State) (k : SlotIx), s.route? k = none → s.findRoute (.slot k) = .error .noRoute)
  ∧ (∀ (s : State) (i z : Nat), outside 32 i ∨ outside 24 z → s.findRoute (.key i z) = .error .range)
  ∧ (∀ (s : State) (k : SlotIx) (r : Route), DistinctKeys s → s.route? k = some r →
      s.findRoute (.key (r.input.1 + 1) (r.zone.1 + 1)) = .ok (k, r))
  ∧ (∀ (s : State) (i : InputIx) (z : ZoneIx), (∀ k r, s.route? k = some r → ¬(r.input = i ∧ r.zone = z)) →
      s.findRoute (.key (i.1 + 1) (z.1 + 1)) = .error .noRoute)
  ∧ ∀ (s : State) (name : RouteName) (st : Status), Ready s → s.findRoute name = .error st →
      exec (.readRoute name) s = .next (answered s Kind.readRoute st [])
      ∧ exec (.retireRoute name) s = .next (answered s Kind.retireRoute st [])
      ∧ exec (.armRoute name) s = .next (answered s Kind.armRoute st [])
      ∧ exec (.haltRoute name) s = .next (answered s Kind.haltRoute st [])
      ∧ exec (.clearRoute name) s = .next (answered s Kind.clearRoute st [])
      ∧ ∀ (base : Nat) (f : StageFields), base ≤ 1 → (∀ p, f.preset = some p → p ≤ 15) →
          (f.delay = none ∨ f.geometric = false) →
          exec (.stageRoute name base f) s = .next (answered s Kind.stageRoute st [])

/-- A placement that passes its checks makes the record of R8 in the lowest-numbered FREE slot, silences that slot's
filter memory, answers OK, or CLAMPED where a quantity was out of range, with the slot, and changes nothing else. The
checks come in R7's order, each with its answer, and a refused placement changes nothing else (R2, R6, R7, R8, R49,
R172). -/
def Obligations.PlacementMadeOrRefused : Prop :=
  (∀ (s : State) (i : InputIx) (z : ZoneIx) (level : Int) (rate : Option Nat) (preset : Option PresetIx)
      (delay : Option Nat) (k : SlotIx),
      Ready s →
      (s.zoneLive z).power ≠ .absent → (s.zoneLive z).power ≠ .fault → (s.ringOf z).runaway = false →
      listens (s.zoneSettings z).listen (s.inputSettings i).precinct = true →
      (∀ j r, s.route? j = some r → ¬(r.input = i ∧ r.zone = z)) →
      s.route? k = none → (∀ j, j < k → s.route? j ≠ none) →
      ∀ (bank : Bank) (due : Nat),
      bank =
        { level := max (-480) (min 48 level)
          rate := min 48 (rate.getD 8)
          preset := preset.getD 0
          delay := delay.map (min 24000) } →
      due =
        (match delay with
        | some d => min 24000 d
        | none =>
          (s.distance (s.inputSettings i).station z * 480 + 171) / 343
            + (24 * (s.zoneSettings z).precedence + 2) / 5) →
      exec (.placeRoute (i.1 + 1) (z.1 + 1) level rate (preset.map Fin.val) delay) s =
        .next
          (answered
            { s with
              engine :=
                { s.engine with
                  table :=
                    s.engine.table.set k
                      (some
                        { input := i, zone := z, state := .ramping, armed := false, flip := false, live := bank
                          staged := bank, current := -480, target := -480, delay := due, limited := false }) }
              signal := { s.signal with eqMemory := s.signal.eqMemory.set k [] } }
            Kind.placeRoute
            (if level < -480 ∨ 48 < level ∨ 48 < rate.getD 8 ∨ 24000 < delay.getD 0 then .clamped else .ok)
            [BitVec.ofNat 8 k.1]))
  ∧ (∀ (s : State) (level : Int) (rate preset delay : Option Nat), Ready s →
      (∀ i z, outside 32 i ∨ outside 24 z ∨ (∃ p, preset = some p ∧ 15 < p) →
        exec (.placeRoute i z level rate preset delay) s = .next (answered s Kind.placeRoute .range []))
      ∧ ((∀ p, preset = some p → p ≤ 15) →
        ∀ (i : InputIx) (z : ZoneIx),
          ((s.zoneLive z).power = .absent →
            exec (.placeRoute (i.1 + 1) (z.1 + 1) level rate preset delay) s =
              .next (answered s Kind.placeRoute .absent []))
          ∧ ((s.zoneLive z).power = .fault →
            exec (.placeRoute (i.1 + 1) (z.1 + 1) level rate preset delay) s =
              .next (answered s Kind.placeRoute .fault []))
          ∧ ((s.zoneLive z).power ≠ .absent → (s.zoneLive z).power ≠ .fault →
            ((s.ringOf z).runaway = true →
              exec (.placeRoute (i.1 + 1) (z.1 + 1) level rate preset delay) s =
                .next (answered s Kind.placeRoute .runaway []))
            ∧ ((s.ringOf z).runaway = false →
              (listens (s.zoneSettings z).listen (s.inputSettings i).precinct = false →
                exec (.placeRoute (i.1 + 1) (z.1 + 1) level rate preset delay) s =
                  .next (answered s Kind.placeRoute .precinct []))
              ∧ (listens (s.zoneSettings z).listen (s.inputSettings i).precinct = true →
                (∀ k r, DistinctKeys s → s.route? k = some r → r.input = i → r.zone = z →
                  exec (.placeRoute (i.1 + 1) (z.1 + 1) level rate preset delay) s =
                    .next
                      (answered s Kind.placeRoute (if r.state = .retiring then .gone else .exists_)
                        [BitVec.ofNat 8 k.1]))
                ∧ ((∀ k, ∃ r, s.route? k = some r ∧ ¬(r.input = i ∧ r.zone = z)) →
                  exec (.placeRoute (i.1 + 1) (z.1 + 1) level rate preset delay) s =
                    .next (answered s Kind.placeRoute .full [])))))))

/-- RETIRE-ROUTE: GONE for a RETIRING route, which is left as it is; any other becomes RETIRING, unarmed, with no
pending delay and no halt cause, its banks, gains and delay kept; a name that finds no route answers why (R15, R17).
That the answer carries no slot is the model's reading (notes/assumptions/18.md). -/
def Obligations.RetireRouteByState : Prop :=
  ∀ (s : State) (name : RouteName), Ready s →
    (∀ st, s.findRoute name = .error st → exec (.retireRoute name) s = .next (answered s Kind.retireRoute st []))
    ∧ ∀ k r, s.findRoute name = .ok (k, r) →
      (r.state = .retiring → exec (.retireRoute name) s = .next (answered s Kind.retireRoute .gone []))
      ∧ (r.state ≠ .retiring →
        exec (.retireRoute name) s =
          .next
            (answered (s.setSlot k (some { r with state := .retiring, armed := false })) Kind.retireRoute .ok []))

/-- STAGE-ROUTE: its checks in order, then the staged bank written from its base and from the fields carried, after
clamping; nothing else of the route changes (R53, R54). A base code above 1 is outside its table and refused RANGE
(R193). That the refusals GONE and ARMED carry the slot is the model's reading (notes/assumptions/18.md). -/
def Obligations.StageRouteWritesStagedBank : Prop :=
  ∀ (s : State) (name : RouteName) (base : Nat) (f : StageFields), Ready s →
    (1 < base ∨ (∃ p, f.preset = some p ∧ 15 < p) ∨ ((∃ d, f.delay = some d) ∧ f.geometric = true) →
      exec (.stageRoute name base f) s = .next (answered s Kind.stageRoute .range []))
    ∧ ∀ (preset : Option PresetIx), base ≤ 1 → f.preset = preset.map Fin.val →
      (f.delay = none ∨ f.geometric = false) →
      ∀ k r, s.findRoute name = .ok (k, r) →
        (r.state = .retiring → exec (.stageRoute name base f) s =
          .next (answered s Kind.stageRoute .gone [BitVec.ofNat 8 k.1]))
        ∧ (r.state ≠ .retiring → r.armed = true → exec (.stageRoute name base f) s =
          .next (answered s Kind.stageRoute .armed [BitVec.ofNat 8 k.1]))
        ∧ (r.state ≠ .retiring → r.armed = false →
          ∀ b : Bank, b = (if base = 0 then r.live else r.staged) →
          exec (.stageRoute name base f) s =
            .next
              (answered
                (s.setSlot k
                  (some
                    { r with
                      staged :=
                        { level := (f.level.map fun x => max (-480) (min 48 x)).getD b.level
                          rate := (f.rate.map (min 48)).getD b.rate
                          preset := preset.getD b.preset
                          delay :=
                            if f.geometric then none
                            else match f.delay with
                              | some d => some (min 24000 d)
                              | none => b.delay } }))
                Kind.stageRoute
                (if (∃ x, f.level = some x ∧ (x < -480 ∨ 48 < x)) ∨ 48 < f.rate.getD 0 ∨ 24000 < f.delay.getD 0
                  then .clamped else .ok)
                [BitVec.ofNat 8 k.1]))

/-- ARM-ROUTE by the order of R56's table: an armed route is answered OK in any state and left as it is; RETIRING,
HALTED and DIPPING routes are refused; a STEADY or RAMPING route becomes armed. Each answer carries the slot and the
flip indicator (R56). -/
def Obligations.ArmRouteByState : Prop :=
  ∀ (s : State) (name : RouteName), Ready s →
    (∀ st, s.findRoute name = .error st → exec (.armRoute name) s = .next (answered s Kind.armRoute st []))
    ∧ ∀ k r, s.findRoute name = .ok (k, r) →
      ∀ body : List Byte, body = [BitVec.ofNat 8 k.1, if r.flip then 1 else 0] →
      (r.armed = true → exec (.armRoute name) s = .next (answered s Kind.armRoute .ok body))
      ∧ (r.armed = false →
        (r.state = .retiring → exec (.armRoute name) s = .next (answered s Kind.armRoute .gone body))
        ∧ (∀ c, r.state = .halted c → exec (.armRoute name) s = .next (answered s Kind.armRoute .halted body))
        ∧ (∀ d, r.state = .dipping d → exec (.armRoute name) s = .next (answered s Kind.armRoute .busy body))
        ∧ (r.state = .steady ∨ r.state = .ramping →
          exec (.armRoute name) s =
            .next (answered (s.setSlot k (some { r with armed := true })) Kind.armRoute .ok body)))

/-- HALT-ROUTE by the state of the route: GONE for RETIRING, OK and nothing done for HALTED, and a STEADY, RAMPING or
DIPPING route becomes HALTED with cause CONTROLLER, unarmed, its banks, gains and delay kept (R19, R64). That the
refusal GONE carries the slot is the model's reading (notes/assumptions/18.md). -/
def Obligations.HaltRouteByState : Prop :=
  ∀ (s : State) (name : RouteName), Ready s →
    (∀ st, s.findRoute name = .error st → exec (.haltRoute name) s = .next (answered s Kind.haltRoute st []))
    ∧ ∀ k r, s.findRoute name = .ok (k, r) →
      (r.state = .retiring →
        exec (.haltRoute name) s = .next (answered s Kind.haltRoute .gone [BitVec.ofNat 8 k.1]))
      ∧ (∀ c, r.state = .halted c →
        exec (.haltRoute name) s =
          .next (answered s Kind.haltRoute .ok [BitVec.ofNat 8 k.1]))
      ∧ (r.state = .steady ∨ r.state = .ramping ∨ (∃ d, r.state = .dipping d) →
        exec (.haltRoute name) s =
          .next
            (answered (s.setSlot k (some { r with state := .halted .controller, armed := false })) Kind.haltRoute .ok
              [BitVec.ofNat 8 k.1]))

/-- CLEAR-ROUTE by the order of R66's table: a route that is not HALTED is answered OK and left as it is; a HALTED one
is refused while its zone is in FAULT or runaway, and otherwise released: RAMPING where its due delay is its delay in
use, DIPPING to the due delay where they differ (R14, R66, R67). That the refusals FAULT and RUNAWAY carry the slot is the
model's reading (notes/assumptions/18.md). -/
def Obligations.ClearRouteByState : Prop :=
  ∀ (s : State) (name : RouteName), Ready s →
    (∀ st, s.findRoute name = .error st → exec (.clearRoute name) s = .next (answered s Kind.clearRoute st []))
    ∧ ∀ k r, s.findRoute name = .ok (k, r) →
      ((∀ c, r.state ≠ .halted c) →
        exec (.clearRoute name) s =
          .next (answered s Kind.clearRoute .ok [BitVec.ofNat 8 k.1]))
      ∧ ∀ c, r.state = .halted c →
        ((s.zoneLive r.zone).power = .fault →
          exec (.clearRoute name) s = .next (answered s Kind.clearRoute .fault [BitVec.ofNat 8 k.1]))
        ∧ ((s.zoneLive r.zone).power ≠ .fault → (s.ringOf r.zone).runaway = true →
          exec (.clearRoute name) s = .next (answered s Kind.clearRoute .runaway [BitVec.ofNat 8 k.1]))
        ∧ ((s.zoneLive r.zone).power ≠ .fault → (s.ringOf r.zone).runaway = false →
          exec (.clearRoute name) s =
            .next
              (answered
                (s.setSlot k
                  (some
                    { r with
                      state := if s.dueOf r = r.delay then .ramping else .dipping (s.dueOf r) }))
                Kind.clearRoute .ok [BitVec.ofNat 8 k.1]))

/-! ## Cues (chapter 4) -/

/-- WRITE-CUE: a request that passes replaces the record whole, or undefines it; a queued cue is refused BUSY; cue 0
cannot be undefined; a cue number, label, count or entry out of range is refused RANGE. Nothing else changes. Of an
entry, identifiers out of range, an unknown kind, and a SET with both an override and the geometric marker, are refused;
every other entry is stored as it came, each quantity clamped. The answer is CLAMPED exactly where some entry's level,
rate or delay override lies outside its range (R71, R72, R73, R74, R193). -/
def Obligations.WriteCueReplacesRecord : Prop :=
  (∀ (s : State) (c : CueIx), Ready s →
      (∀ label entries stored, all? cueEntry? entries = some stored → label.length ≤ 12 →
        label.all isCharacter = true → entries.length ≤ 16 →
        (c ∉ s.engine.queue →
          exec (.writeCue c.1 (.define label entries)) s =
            .next
              (answered
                (s.setCue c (some { label := if label = [] then none else some label, entries := stored }))
                Kind.writeCue (if entries.any entryClamped then .clamped else .ok) []))
        ∧ (c ∈ s.engine.queue →
          exec (.writeCue c.1 (.define label entries)) s = .next (answered s Kind.writeCue .busy [])))
      ∧ (c ≠ 0 → c ∉ s.engine.queue →
        exec (.writeCue c.1 .undefine) s = .next (answered (s.setCue c none) Kind.writeCue .ok []))
      ∧ (c ≠ 0 → c ∈ s.engine.queue →
        exec (.writeCue c.1 .undefine) s = .next (answered s Kind.writeCue .busy []))
      ∧ exec (.writeCue 0 .undefine) s = .next (answered s Kind.writeCue .range [])
      ∧ (∀ label entries,
        12 < label.length ∨ label.all isCharacter = false ∨ 16 < entries.length
            ∨ (∃ e ∈ entries, cueEntry? e = none) →
          exec (.writeCue c.1 (.define label entries)) s = .next (answered s Kind.writeCue .range []))
      ∧ ∀ n form, 63 < n → exec (.writeCue n form) s = .next (answered s Kind.writeCue .range []))
  ∧ ((∀ (i : InputIx) (z : ZoneIx) level rate (preset : Option PresetIx) delay,
      cueEntry? (.place (i.1 + 1) (z.1 + 1) level rate (preset.map Fin.val) delay) =
        some (.place i z (max (-480) (min 48 level)) (rate.map (min 48)) preset (delay.map (min 24000))))
    ∧ (∀ (i : InputIx) (z : ZoneIx) level rate (preset : Option PresetIx) delay,
      cueEntry? (.set (i.1 + 1) (z.1 + 1) level rate (preset.map Fin.val) (some delay) true) = none)
    ∧ (∀ (i : InputIx) (z : ZoneIx) level rate (preset : Option PresetIx) (delay : Option Nat) (edit : DelayEdit),
      (delay = none ∧ edit = .keep) ∨ (∃ d, delay = some d ∧ edit = .override (min 24000 d)) →
      cueEntry? (.set (i.1 + 1) (z.1 + 1) level rate (preset.map Fin.val) delay false) =
        some (.set i z (level.map fun x => max (-480) (min 48 x)) (rate.map (min 48)) preset edit))
    ∧ (∀ (i : InputIx) (z : ZoneIx) level rate (preset : Option PresetIx),
      cueEntry? (.set (i.1 + 1) (z.1 + 1) level rate (preset.map Fin.val) none true) =
        some (.set i z (level.map fun x => max (-480) (min 48 x)) (rate.map (min 48)) preset .geometric))
    ∧ (∀ (i : InputIx) (z : ZoneIx) (on : Bool),
      cueEntry? (.retire (i.1 + 1) (z.1 + 1)) = some (.retire i z)
      ∧ cueEntry? (.zone (z.1 + 1) (flagCode on)) = some (.zone z on))
    ∧ cueEntry? .notify = some .notify ∧ (∀ kind, cueEntry? (.unknown kind) = none)
    ∧ (∀ i z rate preset delay, outside 32 i ∨ outside 24 z ∨ (∃ p, preset = some p ∧ 15 < p) →
      (∀ level, cueEntry? (.place i z level rate preset delay) = none)
      ∧ ∀ level geometric, cueEntry? (.set i z level rate preset delay geometric) = none)
    ∧ (∀ i z, outside 32 i ∨ outside 24 z → cueEntry? (.retire i z) = none)
    ∧ ∀ z on, outside 24 z ∨ 1 < on → cueEntry? (.zone z on) = none)
  ∧ (∀ rate delay (excess : Prop), (excess ↔ (∃ x, rate = some x ∧ 48 < x) ∨ ∃ x, delay = some x ∧ 24000 < x) →
      (∀ i z level preset,
        entryClamped (.place i z level rate preset delay) = true ↔ level < -480 ∨ 48 < level ∨ excess)
      ∧ ∀ i z level preset geometric,
        entryClamped (.set i z level rate preset delay geometric) = true ↔
          (∃ x, level = some x ∧ (x < -480 ∨ 48 < x)) ∨ excess)
  ∧ (∀ i z, entryClamped (.retire i z) = false ∧ entryClamped (.zone i z) = false)
  ∧ entryClamped .notify = false

/-- FIRE-CUE by R77's checks: RANGE, NO-CUE, FULL; a request that passes appends the number to the back of the queue
and answers the queue's length after it (R76, R77). That the length takes two bytes is the model's own choice
(notes/assumptions/7.md). -/
def Obligations.FireCueQueuesDefinedCue : Prop :=
  ∀ s, Ready s →
    (∀ n, 63 < n → exec (.fireCue n) s = .next (answered s Kind.fireCue .range []))
    ∧ ∀ c : CueIx,
      (s.cue? c = none → exec (.fireCue c.1) s = .next (answered s Kind.fireCue .noCue []))
      ∧ (s.cue? c ≠ none → 4 ≤ s.engine.queue.length →
        exec (.fireCue c.1) s = .next (answered s Kind.fireCue .full []))
      ∧ (s.cue? c ≠ none → s.engine.queue.length < 4 →
        exec (.fireCue c.1) s =
          .next
            (answered { s with engine := { s.engine with queue := s.engine.queue ++ [c] } } Kind.fireCue .ok
              [0, BitVec.ofNat 8 (s.engine.queue.length + 1)]))

/-- A take removes the oldest cue and works through its entries in stored order, each applied to what the entries before
it left, or skipped; the controller-live changes of its ZONE entries are handed on in order, and each sets its zone's
controller-live and works the live condition out afresh. At its end the result is written: applied plus skipped is the
number of the entries, and the first skip is that of the lowest index; CUE-DONE is raised, and CUE-SKIPPED with a skip.
A take touches only the route table, the queue, the result, the filter memory of new routes, and the port's notices. An
empty queue leaves step 2 with nothing to do (R79, R80, R85, R87, R88, R89). -/
def Obligations.CueTakeWritesResult : Prop :=
  (∀ s, s.engine.queue = [] → takeCue s = (s, []))
  ∧ (∀ s c rest, s.engine.queue = c :: rest →
    ∃ res : CueResult,
      (takeCue s).1.engine.result = some res
      ∧ res.cue = c
      ∧ res.applied + res.skipped = (s.entriesOf c).length
      ∧ (res.firstSkip.isSome = true ↔ 0 < res.skipped)
      ∧ (takeCue s).1.engine.queue = rest
      ∧ (takeCue s).1.port.notices.getLsbD 1 = true
      ∧ (0 < res.skipped → (takeCue s).1.port.notices.getLsbD 2 = true)
      ∧ (takeCue s).1 =
          { s with
            engine := { s.engine with table := (takeCue s).1.engine.table, queue := rest, result := some res }
            signal := { s.signal with eqMemory := (takeCue s).1.signal.eqMemory }
            port :=
              { s.port with
                notices := (takeCue s).1.port.notices
                lastNotify := (takeCue s).1.port.lastNotify
                attnLow := attention (takeCue s).1.port.notices s.port.mask } })
  ∧ (∀ s c rest v, s.engine.queue = c :: rest → s.cue? c = some v →
    ∀ (u : State) (done : TakeSoFar),
      applyEntries c 0 v.entries { s with engine := { s.engine with queue := rest } }
          { result := { cue := c, applied := 0, skipped := 0, firstSkip := none }, handed := [] } =
        (u, done) →
      takeCue s =
        ((({ u with engine := { u.engine with result := some done.result } } : State).raise .cueDone).raiseIf
            (decide (0 < done.result.skipped)) .cueSkipped,
          done.handed))
  ∧ (∀ (c : CueIx) (n : Nat) (s : State) (done : TakeSoFar),
      applyEntries c n [] s done = (s, done)
      ∧ ∀ (e : CueEntry) (es : List CueEntry),
        (∀ u hs, s.applyEntry c e = .ok (u, hs) →
          applyEntries c n (e :: es) s done =
            applyEntries c (n + 1) es u
              { result := { done.result with applied := done.result.applied + 1 }, handed := done.handed ++ hs })
        ∧ ∀ st, s.applyEntry c e = .error st →
          applyEntries c n (e :: es) s done =
            applyEntries c (n + 1) es s
              { result :=
                  { done.result with
                    skipped := done.result.skipped + 1
                    firstSkip := if done.result.firstSkip = none then some (n, st) else done.result.firstSkip }
                handed := done.handed })
  ∧ ∀ s : State,
    takeHanded s [] = s
    ∧ ∀ (z : ZoneIx) (on : Bool) (hs : List Handed),
      takeHanded s ((z, on) :: hs) = takeHanded (s.setControllerLive z on) hs
      ∧ s.setControllerLive z on =
          s.setZoneLive z
            { s.zoneLive z with
              controllerLive := on
              live := (s.zoneSettings z).installLive || on || (s.zoneLive z).keyLive }

/-- The tests of the zone come before any test of an entry's kind: SAFE, then ABSENT. A cue entry whose zone passes
them: PLACE, SET, RETIRE and ZONE, each applied or skipped by its table. A SET stages and arms the route as one act, from
its live bank. NOTIFY names no zone and is always applied: it keeps the cue's number and raises NOTIFY, and changes
nothing else (R80, R81, R82, R84, R85, R86). -/
def Obligations.CueEntriesByTheirTables : Prop :=
  (∀ (s : State) (c : CueIx) (e : CueEntry) (z : ZoneIx),
      ((∃ i level rate preset delay, e = .place i z level rate preset delay)
        ∨ (∃ i level rate preset delay, e = .set i z level rate preset delay)
        ∨ (∃ i, e = .retire i z) ∨ ∃ on, e = .zone z on) →
      ((s.zoneSettings z).cueSafe = true → s.applyEntry c e = .error .safe)
      ∧ ((s.zoneSettings z).cueSafe = false → (s.zoneLive z).power = .absent → s.applyEntry c e = .error .absent))
  ∧ (∀ (s : State) (c : CueIx) (i : InputIx) (z : ZoneIx),
      (s.zoneSettings z).cueSafe = false → (s.zoneLive z).power ≠ .absent →
      (∀ level rate preset delay,
        ((s.zoneLive z).power = .fault → s.applyEntry c (.place i z level rate preset delay) = .error .fault)
        ∧ ((s.zoneLive z).power ≠ .fault → (s.ringOf z).runaway = true →
          s.applyEntry c (.place i z level rate preset delay) = .error .runaway)
        ∧ ((s.zoneLive z).power ≠ .fault → (s.ringOf z).runaway = false →
          listens (s.zoneSettings z).listen (s.inputSettings i).precinct = false →
          s.applyEntry c (.place i z level rate preset delay) = .error .precinct)
        ∧ ((s.zoneLive z).power ≠ .fault → (s.ringOf z).runaway = false →
          listens (s.zoneSettings z).listen (s.inputSettings i).precinct = true →
          (∀ k r, s.slotOfKey? i z = some k → s.route? k = some r →
            (r.state = .retiring → s.applyEntry c (.place i z level rate preset delay) = .error .retiring)
            ∧ (r.state ≠ .retiring → r.armed = true →
              s.applyEntry c (.place i z level rate preset delay) = .error .armed)
            ∧ (r.armed = false → (∃ h, r.state = .halted h) →
              s.applyEntry c (.place i z level rate preset delay) = .error .halted)
            ∧ (r.armed = false → (∃ d, r.state = .dipping d) →
              s.applyEntry c (.place i z level rate preset delay) = .error .busy)
            ∧ (r.armed = false → r.state = .steady ∨ r.state = .ramping →
              s.applyEntry c (.place i z level rate preset delay) =
                .ok
                  (s.setSlot k
                    (some
                      { r with
                        staged :=
                          { level := clampLevel level, rate := (rate.map clampRate).getD r.live.rate
                            preset := preset.getD r.live.preset
                            delay := (delay.map clampDelay).or r.live.delay }
                        armed := true }), [])))
          ∧ (s.slotOfKey? i z = none →
            (s.lowestFree? = none → s.applyEntry c (.place i z level rate preset delay) = .error .full)
            ∧ ∀ k, s.lowestFree? = some k →
              s.applyEntry c (.place i z level rate preset delay) =
                .ok (s.placeAt k i z (placementBank level rate preset delay), []))))
      ∧ (s.slotOfKey? i z = none →
        (∀ level rate preset delay, s.applyEntry c (.set i z level rate preset delay) = .error .noRoute)
        ∧ s.applyEntry c (.retire i z) = .error .noRoute)
      ∧ (∀ k r, s.slotOfKey? i z = some k → s.route? k = some r →
        (r.state = .retiring →
          (∀ level rate preset delay, s.applyEntry c (.set i z level rate preset delay) = .error .retiring)
          ∧ s.applyEntry c (.retire i z) = .error .retiring)
        ∧ (r.state ≠ .retiring →
          (r.armed = true →
            ∀ level rate preset delay, s.applyEntry c (.set i z level rate preset delay) = .error .armed)
          ∧ (r.armed = false → (∃ h, r.state = .halted h) →
            ∀ level rate preset delay, s.applyEntry c (.set i z level rate preset delay) = .error .halted)
          ∧ (r.armed = false → (∃ d, r.state = .dipping d) →
            ∀ level rate preset delay, s.applyEntry c (.set i z level rate preset delay) = .error .busy)
          ∧ (r.armed = false → r.state = .steady ∨ r.state = .ramping →
            ∀ level rate preset delay,
              s.applyEntry c (.set i z level rate preset delay) =
                .ok
                  (s.setSlot k
                    (some
                      { r with
                        staged := editBank r.live (level.map clampLevel) (rate.map clampRate) preset (clampEdit delay)
                        armed := true }), []))
          ∧ s.applyEntry c (.retire i z) =
              .ok (s.setSlot k (some { r with state := .retiring, armed := false }), [])))
      ∧ ∀ on, s.applyEntry c (.zone z on) = .ok (s, [(z, on)]))
  ∧ ∀ (s : State) (c : CueIx), ∃ t, s.applyEntry c .notify = .ok (t, [])
    ∧ t.port.lastNotify = some c ∧ t.port.notices.getLsbD 3 = true
    ∧ t =
        { s with
          port :=
            { s.port with
              lastNotify := some c
              notices := s.port.notices ||| 0x8
              attnLow := decide ((s.port.notices ||| 0x8) &&& s.port.mask ≠ 0) } }

/-! ## Finding and sweeping (chapter 5) -/

/-- An accepted FIND or SWEEP is not answered: it becomes the scan in progress, its cursor at the start slot and its
remaining the count, 0 asking for all 256, and the receiver is WORKING. A count above 256, a selector field, mode or
action out of range, or a LEVEL without its value is refused RANGE at once. A selector is taken exactly where each field
present is in its range, as the codes of 10.6 give it; an action's code gives the action, LEVEL's value clamped (R91,
R93, R94, R95). -/
def Obligations.ScansBeginOrAreRefused : Prop :=
  (∀ (s : State) (start : SlotIx) (count : Nat) (form : SelectorForm), Ready s →
    (∀ sel, selector? form = some sel → count ≤ 256 →
      (∀ mode m, findMode? mode = some m →
        exec (.findRoutes start count mode form) s =
          .next
            { s with
              engine :=
                { s.engine with
                  scan :=
                    some
                      { job := .find m, selector := sel, cursor := start
                        remaining := if count = 0 then 256 else count } }
              port := { s.port with inProgress := some { kind := Kind.findRoutes, scan := true } } })
      ∧ ∀ action level act, sweepAction? action level = some act →
        exec (.sweepRoutes start count action form level) s =
          .next
            { s with
              engine :=
                { s.engine with
                  scan :=
                    some
                      { job :=
                          .sweep act (decide (action = 4 ∧ ∃ x, level = some x ∧ (x < -480 ∨ 48 < x))) 0 0 none
                        selector := sel, cursor := start, remaining := if count = 0 then 256 else count } }
              port := { s.port with inProgress := some { kind := Kind.sweepRoutes, scan := true } } })
    ∧ (∀ mode, selector? form = none ∨ 1 < mode ∨ 256 < count →
      exec (.findRoutes start count mode form) s = .next (answered s Kind.findRoutes .range []))
    ∧ ∀ action level, selector? form = none ∨ 4 < action ∨ (action = 4 ∧ level = none) ∨ 256 < count →
      exec (.sweepRoutes start count action form level) s = .next (answered s Kind.sweepRoutes .range []))
  ∧ (∀ (form : SelectorForm) (sel : Selector),
      selector? form = some sel ↔
        form =
          { input := sel.input.map fun i => i.1 + 1
            zone := sel.zone.map fun z => z.1 + 1
            precinct := sel.precinct.map fun p => p.1 + 1
            cls := sel.cls.map classCode
            state := sel.state.map slotStateCode
            armed := sel.armed.map flagCode
            cause := sel.cause.map causeCode
            limited := sel.limited.map flagCode })
  ∧ (∀ form : SelectorForm,
      selector? form = none ↔
        (∃ n, form.input = some n ∧ outside 32 n) ∨ (∃ n, form.zone = some n ∧ outside 24 n)
        ∨ (∃ n, form.precinct = some n ∧ outside 4 n) ∨ (∃ n, form.cls = some n ∧ 3 < n)
        ∨ (∃ n, form.state = some n ∧ 5 < n) ∨ (∃ n, form.armed = some n ∧ 1 < n)
        ∨ (∃ n, form.cause = some n ∧ outside 3 n) ∨ ∃ n, form.limited = some n ∧ 1 < n)
  ∧ findMode? 0 = some .stopOnMatch ∧ findMode? 1 = some .stopOnMismatch
  ∧ (∀ level, sweepAction? 0 level = some .retire ∧ sweepAction? 1 level = some .halt
      ∧ sweepAction? 2 level = some .clear ∧ sweepAction? 3 level = some .arm)
  ∧ ∀ v, sweepAction? 4 (some v) = some (.level (max (-480) (min 48 v)))

/-- A slot matches a selector when every field present equals the slot's value: an occupied slot by its record and its
input's record, a FREE slot by its state alone. A step of a scan examines up to 16 slots from its cursor upward. A SWEEP
always examines as many as remain up to 16, slot by slot, each by its action, with the cursor as many slots on; it ends
exactly when none remains, with OK or CLAMPED and its counts; only the examined slots can change. A FIND changes no
slot; it stops at the first slot that meets its mode, goes on 16 slots further while more than 16 remain and none does,
and is EXHAUSTED otherwise. A scan that goes on is kept; one that ends leaves no scan and no request in progress, and
its answer is handed on with the KIND of its request (R92, R93, R96, R98, R99, R101, R102). -/
def Obligations.ScanStepExaminesSixteen : Prop :=
  ((∀ (s : State) (sel : Selector) (r : Route),
      s.slotMatches sel (some r) = true ↔
        (∀ x, sel.input = some x → x = r.input) ∧ (∀ x, sel.zone = some x → x = r.zone)
        ∧ (∀ x, sel.precinct = some x → x = (s.inputSettings r.input).precinct)
        ∧ (∀ x, sel.cls = some x → x = (s.inputSettings r.input).cls)
        ∧ (∀ x, sel.state = some x → x = slotState r.state) ∧ (∀ x, sel.armed = some x → x = r.armed)
        ∧ (∀ x, sel.cause = some x → r.state = .halted x) ∧ ∀ x, sel.limited = some x → x = r.limited)
    ∧ ∀ (s : State) (sel : Selector),
      s.slotMatches sel none = true ↔
        sel.input = none ∧ sel.zone = none ∧ sel.precinct = none ∧ sel.cls = none
        ∧ (sel.state = none ∨ sel.state = some .free) ∧ sel.armed = none ∧ sel.cause = none ∧ sel.limited = none)
  ∧ ((∀ (s : State) (sc : Scan) act c a f first, sc.job = .sweep act c a f first →
      (∃ t sc' e, examine 16 s sc = (t, sc', e)
        ∧ sc'.remaining = sc.remaining - min 16 sc.remaining
        ∧ sc'.cursor.1 = (sc.cursor.1 + min 16 sc.remaining) % 256
        ∧ (e = .going ↔ 16 < sc.remaining)
        ∧ (∀ k : SlotIx, (∀ d, d < min 16 sc.remaining → k.1 ≠ (sc.cursor.1 + d) % 256) → t.route? k = s.route? k)
        ∧ t = { s with engine := { s.engine with table := t.engine.table } }
        ∧ ∃ a' f' first', sc'.job = .sweep act c a' f' first'
          ∧ (sc.remaining ≤ 16 →
            e =
              .ended (if c then .clamped else .ok)
                (wordBytes a' ++ wordBytes f'
                  ++ match first' with
                    | none => [0, 0, 0]
                    | some (k, st) => [1, BitVec.ofNat 8 k.1, statusCode st])))
      ∧ ∀ n,
        (sc.remaining = 0 → (examine n s sc).1 = s ∧ (examine n s sc).2.1 = sc)
        ∧ (sc.remaining ≠ 0 → examine (n + 1) s sc = examine n (s.sweepSlot act sc).1 (s.sweepSlot act sc).2))
    ∧ ∀ (s : State) (sc : Scan) m, sc.job = .find m →
      ∃ sc' e, examine 16 s sc = (s, sc', e)
        ∧ (∀ st body, e = .ended st body → st = .ok →
          ∃ d, d < min 16 sc.remaining
            ∧ body = [BitVec.ofNat 8 (sc.cursor.1 + d), BitVec.ofNat 8 ((sc.remaining - (d + 1)) / 256),
                BitVec.ofNat 8 (sc.remaining - (d + 1))]
            ∧ stops m (s.slotMatches sc.selector (s.route? (sc.cursor + Fin.ofNat 256 d))) = true
            ∧ ∀ d', d' < d →
              stops m (s.slotMatches sc.selector (s.route? (sc.cursor + Fin.ofNat 256 d'))) = false)
        ∧ (∀ st body, e = .ended st body → st ≠ .ok →
          st = .exhausted ∧ sc.remaining ≤ 16 ∧ body = [BitVec.ofNat 8 (sc.cursor.1 + sc.remaining), 0, 0]
            ∧ ∀ d, d < sc.remaining →
              stops m (s.slotMatches sc.selector (s.route? (sc.cursor + Fin.ofNat 256 d))) = false)
        ∧ (e = .going →
          16 < sc.remaining
          ∧ sc' = { sc with cursor := sc.cursor + 16, remaining := sc.remaining - 16 }
          ∧ ∀ d, d < 16 → stops m (s.slotMatches sc.selector (s.route? (sc.cursor + Fin.ofNat 256 d))) = false))
  ∧ (∀ matched, stops .stopOnMatch matched = matched ∧ stops .stopOnMismatch matched = !matched)
  ∧ ∀ s : State,
    (s.engine.scan = none → scanStep s = s)
    ∧ ∀ sc t sc' e, s.engine.scan = some sc → examine 16 s sc = (t, sc', e) →
      (e = .going → scanStep s = { t with engine := { t.engine with scan := some sc' } })
      ∧ ∀ st body, e = .ended st body →
        scanStep s =
          answered
            { t with
              engine := { t.engine with scan := none }
              port := { t.port with inProgress := none } }
            (match sc.job with
            | .find _ => Kind.findRoutes
            | .sweep _ _ _ _ _ => Kind.sweepRoutes)
            st body

/-- A sweep's action on a matching route, by the tables of R99 and R100: the route after it, or the status of its
refusal. An occupied slot that matches takes the action and is counted as affected, or keeps its route and is counted as
refused, with the slot and status of the first refusal kept; any other slot is passed by; the cursor moves on and
remaining falls by one (R96, R99, R100). -/
def Obligations.SweepActionsByState : Prop :=
  (∀ (s : State) (r : Route),
    (r.state = .retiring →
      s.sweepRoute .retire r = .error .gone ∧ s.sweepRoute .halt r = .error .gone ∧ s.sweepRoute .clear r = .ok r
      ∧ (r.armed = false → s.sweepRoute .arm r = .error .gone) ∧ ∀ v, s.sweepRoute (.level v) r = .error .gone)
    ∧ (r.armed = true → s.sweepRoute .arm r = .ok r)
    ∧ (r.state ≠ .retiring →
      s.sweepRoute .retire r = .ok { r with state := .retiring, armed := false }
      ∧ (r.armed = true → ∀ v, s.sweepRoute (.level v) r = .error .armed)
      ∧ ((∃ c, r.state = .halted c) →
        s.sweepRoute .halt r = .ok r
        ∧ ((s.zoneLive r.zone).power = .fault → s.sweepRoute .clear r = .error .fault)
        ∧ ((s.zoneLive r.zone).power ≠ .fault → (s.ringOf r.zone).runaway = true →
          s.sweepRoute .clear r = .error .runaway)
        ∧ ((s.zoneLive r.zone).power ≠ .fault → (s.ringOf r.zone).runaway = false →
          s.sweepRoute .clear r =
            .ok { r with state := if s.dueOf r = r.delay then .ramping else .dipping (s.dueOf r) })
        ∧ (r.armed = false →
          s.sweepRoute .arm r = .error .halted ∧ ∀ v, s.sweepRoute (.level v) r = .error .halted))
      ∧ ((∀ c, r.state ≠ .halted c) →
        s.sweepRoute .halt r = .ok { r with state := .halted .controller, armed := false }
        ∧ s.sweepRoute .clear r = .ok r)
      ∧ ((∃ d, r.state = .dipping d) → r.armed = false →
        s.sweepRoute .arm r = .error .busy ∧ ∀ v, s.sweepRoute (.level v) r = .error .busy)
      ∧ (r.state = .steady ∨ r.state = .ramping → r.armed = false →
        s.sweepRoute .arm r = .ok { r with armed := true }
        ∧ ∀ v, -480 ≤ v → v ≤ 48 →
          s.sweepRoute (.level v) r = .ok { r with staged := { r.live with level := v }, armed := true })))
  ∧ ∀ (s : State) (act : SweepAction) (c : Bool) (a f : Nat) (first : Option (SlotIx × Status)) (sc after : Scan),
    sc.job = .sweep act c a f first →
    after = { sc with cursor := sc.cursor + 1, remaining := sc.remaining - 1 } →
    (∀ r, s.route? sc.cursor = some r → s.slotMatches sc.selector (some r) = true →
      (∀ r', s.sweepRoute act r = .ok r' →
        s.sweepSlot act sc =
          (s.setSlot sc.cursor (some r'), { after with job := .sweep act c (a + 1) f first }))
      ∧ ∀ st, s.sweepRoute act r = .error st →
        s.sweepSlot act sc =
          (s, { after with
            job := .sweep act c a (f + 1) (if first = none then some (sc.cursor, st) else first) }))
    ∧ (∀ r, s.route? sc.cursor = some r → s.slotMatches sc.selector (some r) = false →
      s.sweepSlot act sc = (s, after))
    ∧ (s.route? sc.cursor = none → s.sweepSlot act sc = (s, after))

/-! ## Inputs, gates and precincts (chapter 6) -/

/-- SET-INPUT is refused RANGE for an input, class, mode, precinct or station out of range. An accepted one writes every
field carried, after clamping, to the input's record and to no other, and is answered CLAMPED exactly where a quantity
lay outside its range, with the number of routes it moved into RETIRING. A change of mode or precinct shuts the input's
gate and takes it off its old precinct's list; a change of precinct retires the input's routes into zones that do not
listen to the new one; a change of station reaches the input's geometric routes by their due delays. Nothing else
changes (R18, R116, R117, R118, R119). -/
def Obligations.SetInputEditsOneInput : Prop :=
  (∀ (s : State) (f : InputFields), Ready s →
      (∀ n, outside 32 n → exec (.setInput n f) s = .next (answered s Kind.setInput .range []))
      ∧ ((∃ n, f.cls = some n ∧ 3 < n) ∨ (∃ n, f.mode = some n ∧ 2 < n) ∨ (∃ n, f.precinct = some n ∧ outside 4 n)
          ∨ (∃ n, f.station = some n ∧ outside 16 n) →
        ∀ i : InputIx, exec (.setInput (i.1 + 1) f) s = .next (answered s Kind.setInput .range [])))
  ∧ (∀ f : InputFields,
      inputClamped f = true ↔
        (∃ x, f.trim = some x ∧ (x < -48 ∨ 48 < x)) ∨ (∃ x, f.threshold = some x ∧ (x < -240 ∨ 0 < x))
        ∨ (∃ x, f.closedAtt = some x ∧ (x < 0 ∨ 160 < x)) ∨ ∃ x, f.hold = some x ∧ (x < 1 ∨ 4095 < x))
  ∧ ∀ (s : State) (i : InputIx) (f : InputFields) (cls : Option InputClass) (mode : Option InputMode)
    (precinct : Option PrecinctIx) (station : Option StationIx),
    Ready s → f.cls = cls.map classCode → f.mode = mode.map modeCode →
    f.precinct = precinct.map (fun p => p.1 + 1) → f.station = station.map (fun p => p.1 + 1) →
    ∀ old new : InputSettings, old = s.inputSettings i →
    new =
      { cls := cls.getD old.cls, mode := mode.getD old.mode, precinct := precinct.getD old.precinct
        station := station.getD old.station
        trim := (f.trim.map (fun x => max (-48) (min 48 x))).getD old.trim
        threshold := (f.threshold.map (fun x => max (-240) (min 0 x))).getD old.threshold
        closedAtt := (f.closedAtt.map (fun x => max 0 (min 160 x))).getD old.closedAtt
        hold := (f.hold.map (fun x => max 1 (min 4095 x))).getD old.hold } →
    ∃ t,
      exec (.setInput (i.1 + 1) f) s =
        .next
          (answered t Kind.setInput (if inputClamped f then .clamped else .ok)
            (wordBytes
              (slotCount fun k =>
                (s.route? k).any fun r =>
                  r.input = i && old.precinct ≠ new.precinct
                    && !listens (s.zoneSettings r.zone).listen new.precinct && r.state ≠ .retiring)))
      ∧ t.store =
          { s.store with working := { s.store.working with inputs := s.store.working.inputs.set i new } }
      ∧ (∀ k, t.route? k =
          (s.route? k).map fun r =>
            if r.input = i ∧ old.precinct ≠ new.precinct
                ∧ listens (s.zoneSettings r.zone).listen new.precinct = false then retire r
            else if r.input = i ∧ old.station ≠ new.station ∧ r.live.delay = none then retap (t.dueOf r) r
            else r)
      ∧ (old.mode = new.mode → old.precinct = new.precinct → t.gates = s.gates)
      ∧ (old.mode ≠ new.mode ∨ old.precinct ≠ new.precinct →
        t.gates.inputs.get i = { gate := .closed, counter := 0, peak := (s.gates.inputs.get i).peak }
        ∧ (∀ j, j ≠ i → t.gates.inputs.get j = s.gates.inputs.get j)
        ∧ ∀ p, t.gates.lists.get p =
            if p = old.precinct then (s.gates.lists.get p).filter (fun j => decide (j ≠ i))
            else s.gates.lists.get p)
      ∧ t = { s with engine := { s.engine with table := t.engine.table }, gates := t.gates, store := t.store }

/-- SET-PRECINCT is refused RANGE for a precinct or a LAST-ON setting out of range. An accepted one writes the fields
carried, and closes members until the list fits the new MAXNOM: every member closed has a class number at least that of
every member left, and was admitted before those left of its own class. It shuts the gates of those members and of no
other input (R122). A LAST-ON setting above 1 is outside its table (R193). That one with neither field is answered OK
and changes nothing is the model's own choice (notes/assumptions/26.md). -/
def Obligations.SetPrecinctFitsTheList : Prop :=
  (∀ (s : State) (maxnom lastOn : Option Nat), Ready s →
      (∀ n, outside 4 n → exec (.setPrecinct n maxnom lastOn) s = .next (answered s Kind.setPrecinct .range []))
      ∧ ∀ (p : PrecinctIx) x, lastOn = some x → 1 < x →
        exec (.setPrecinct (p.1 + 1) maxnom lastOn) s = .next (answered s Kind.setPrecinct .range []))
  ∧ ∀ (s : State) (p : PrecinctIx) (maxnom : Option Nat) (lastOn : Option Bool), Ready s → (s.listOf p).Nodup →
    ∃ t,
      exec (.setPrecinct (p.1 + 1) maxnom (lastOn.map flagCode)) s =
        .next
          (answered t Kind.setPrecinct (if ∃ m, maxnom = some m ∧ (m = 0 ∨ 16 < m) then .clamped else .ok) [])
      ∧ t.precinctSettings p =
          { maxnom := (maxnom.map (fun m => max 1 (min 16 m))).getD (s.precinctSettings p).maxnom
            lastOn := lastOn.getD (s.precinctSettings p).lastOn }
      ∧ (t.listOf p).length = min (s.listOf p).length (t.precinctSettings p).maxnom
      ∧ (t.listOf p).Sublist (s.listOf p)
      ∧ (∀ a, a ∈ s.listOf p → a ∉ t.listOf p → ∀ b, b ∈ t.listOf p →
        classOf s.store.working b ≤ classOf s.store.working a
        ∧ (classOf s.store.working b = classOf s.store.working a →
          (s.listOf p).idxOf a < (s.listOf p).idxOf b))
      ∧ (∀ q, q ≠ p → t.listOf q = s.listOf q ∧ t.precinctSettings q = s.precinctSettings q)
      ∧ (∀ i, t.gates.inputs.get i =
          if i ∈ s.listOf p ∧ i ∉ t.listOf p then (s.gates.inputs.get i).shut else s.gates.inputs.get i)
      ∧ t =
          { s with
            gates := t.gates
            store :=
              { s.store with
                working :=
                  { s.store.working with
                    precincts := s.store.working.precincts.set p (t.precinctSettings p) } } }

/-- The gate unit's work at a completion, in its four steps: every input's last block peak is that of the block; the
open and held gates move; the candidates, fixed before any gate moved, are tried in increasing input number; the
LAST-ON releases follow. How an AUTO input that is OPEN or HOLD moves by its block peak, and which inputs are
candidates: hysteresis of 12 below the threshold, a hold counted down, closed when it has run out. LAST-ON keeps one
member: where the holds of all members of a LAST-ON precinct run out together, all close but the latest of the list,
which stays in HOLD with counter 0; in a LAST-ON precinct where some hold has not run out, and in a precinct without
LAST-ON, every member whose hold runs out closes and leaves the list. A gate that closes has counter 0, and an input
whose hold has not run out keeps its move (R106, R107, R108, R109, R110, R114). -/
def Obligations.GatesMoveByPeak : Prop :=
  (∀ (v : InputSettings) (g : GateLive),
      (v.mode ≠ .auto → moveInput v g = (g, false) ∧ isCandidate v g = false)
      ∧ (v.mode = .auto →
        (g.gate = .closed → moveInput v g = (g, false) ∧ (isCandidate v g = true ↔ v.threshold ≤ g.peak))
        ∧ (g.gate ≠ .closed → isCandidate v g = false)
        ∧ (g.gate = .opened → v.threshold - 12 ≤ g.peak → moveInput v g = (g, false))
        ∧ (g.gate = .opened → g.peak < v.threshold - 12 →
          moveInput v g = ({ g with gate := .hold, counter := v.hold }, false))
        ∧ (g.gate = .hold → v.threshold - 12 ≤ g.peak →
          moveInput v g = ({ g with gate := .opened, counter := 0 }, false))
        ∧ (g.gate = .hold → g.peak < v.threshold - 12 →
          moveInput v g = ({ g with counter := g.counter - 1 }, decide (g.counter - 1 = 0)))))
  ∧ (∀ (w : WorkingCopy) (g : GateUnit) (p : PrecinctIx),
      (∀ i, i ∈ g.lists.get p → (w.inputs.get i).precinct = p) →
      ∀ runOut : InputIx → Bool, (∀ i, runOut i = (moveInput (w.inputs.get i) (g.inputs.get i)).2) →
      ((w.precincts.get p).lastOn = false →
        (moveGates w g).lists.get p = (g.lists.get p).filter (fun i => !runOut i)
        ∧ ∀ i, i ∈ g.lists.get p → runOut i = true →
          (moveGates w g).inputs.get i = { g.inputs.get i with gate := .closed, counter := 0 })
      ∧ ((w.precincts.get p).lastOn = true → (∃ i, i ∈ g.lists.get p ∧ runOut i = false) →
        (moveGates w g).lists.get p = (g.lists.get p).filter (fun i => !runOut i)
        ∧ ∀ i, i ∈ g.lists.get p → runOut i = true →
          (moveGates w g).inputs.get i = { g.inputs.get i with gate := .closed, counter := 0 })
      ∧ ((w.precincts.get p).lastOn = true → (g.lists.get p).Nodup → (∀ i, i ∈ g.lists.get p → runOut i = true) →
        ∀ last, (g.lists.get p).getLast? = some last →
          (moveGates w g).lists.get p = [last]
          ∧ (moveGates w g).inputs.get last =
              { g.inputs.get last with counter := (g.inputs.get last).counter - 1 }
          ∧ ∀ i, i ∈ g.lists.get p → i ≠ last →
            (moveGates w g).inputs.get i = { g.inputs.get i with gate := .closed, counter := 0 })
      ∧ ∀ i, (w.inputs.get i).precinct = p → runOut i = false →
        (moveGates w g).inputs.get i = (moveInput (w.inputs.get i) (g.inputs.get i)).1)
  ∧ ∀ (peaks : Table Int 32) (w : WorkingCopy) (g g1 : GateUnit) (candidates : List InputIx),
    g1.lists = g.lists → (∀ i, g1.inputs.get i = { g.inputs.get i with peak := peaks.get i }) →
    candidates.Pairwise (· < ·) → (∀ i, i ∈ candidates ↔ isCandidate (w.inputs.get i) (g1.inputs.get i) = true) →
    ∀ g3 : GateUnit, g3 = candidates.foldl (tryCandidate w) (moveGates w g1) →
    gateWork peaks w g = releaseLastOn w (releaseLastOn w (releaseLastOn w (releaseLastOn w g3 0) 1) 2) 3

/-- A candidate's admission: with room it joins the back of its precinct's list, OPEN with counter 0; with the list
full it displaces the oldest of the members of the largest class number above its own, which closes; with no such
member nothing changes. The LAST-ON release: where a LAST-ON precinct's list holds more than one member, those in HOLD
with counter 0 close and leave it, and nothing else changes (R111, R114). -/
def Obligations.CandidatesAdmittedByClass : Prop :=
  (∀ (w : WorkingCopy) (g : GateUnit) (i : InputIx) (p : PrecinctIx), p = (w.inputs.get i).precinct →
    ((g.lists.get p).length < (w.precincts.get p).maxnom →
      (tryCandidate w g i).lists.get p = g.lists.get p ++ [i]
      ∧ (tryCandidate w g i).inputs.get i = { g.inputs.get i with gate := .opened, counter := 0 })
    ∧ ((w.precincts.get p).maxnom ≤ (g.lists.get p).length →
      (∀ v, v ∈ g.lists.get p → classOf w v ≤ classOf w i) → tryCandidate w g i = g)
    ∧ ((w.precincts.get p).maxnom ≤ (g.lists.get p).length →
      ∀ before v after, g.lists.get p = before ++ v :: after → classOf w i < classOf w v → i ∉ g.lists.get p →
        v ∉ before → v ∉ after →
        (∀ b, b ∈ before → classOf w b < classOf w v) → (∀ b, b ∈ after → classOf w b ≤ classOf w v) →
        (tryCandidate w g i).lists.get p = before ++ after ++ [i]
        ∧ (tryCandidate w g i).inputs.get v = (g.inputs.get v).shut
        ∧ (tryCandidate w g i).inputs.get i = { g.inputs.get i with gate := .opened, counter := 0 })
    ∧ ∀ q, q ≠ p → (tryCandidate w g i).lists.get q = g.lists.get q)
  ∧ ∀ (w : WorkingCopy) (g : GateUnit) (p : PrecinctIx),
    ((w.precincts.get p).lastOn = false ∨ (g.lists.get p).length ≤ 1 → releaseLastOn w g p = g)
    ∧ ((w.precincts.get p).lastOn = true → 1 < (g.lists.get p).length →
      ∀ kept : InputIx → Bool,
      (∀ i, kept i = true ↔ (g.inputs.get i).gate = .hold ∧ (g.inputs.get i).counter = 0) →
      (releaseLastOn w g p).lists.get p = (g.lists.get p).filter (fun i => !kept i)
      ∧ (∀ q, q ≠ p → (releaseLastOn w g p).lists.get q = g.lists.get q)
      ∧ ∀ i, (releaseLastOn w g p).inputs.get i =
          if i ∈ g.lists.get p ∧ kept i = true then (g.inputs.get i).shut else g.inputs.get i)
    ∧ ∀ l : GateLive, l.shut = { gate := .closed, counter := 0, peak := l.peak }

/-! ## Zones and amplifiers (chapter 7) -/

/-- ZONE-LIVE sets controller-live and works the live condition out afresh, unless the zone or the setting is out of
range or the zone is ABSENT; READ-ZONE answers the zone's record and clears its CLIP. Neither changes anything else. The
record is laid out field by field (R45, R127, R130, R147, R193). That the key comes last, and that the time to expiry is
0 where no timer runs, are the model's own choices (notes/assumptions/7.md). -/
def Obligations.ZoneLiveAndReadZone : Prop :=
  (∀ s, Ready s →
    (∀ n m, outside 24 n ∨ 1 < m → exec (.zoneLive n m) s = .next (answered s Kind.zoneLive .range []))
    ∧ (∀ n, outside 24 n → exec (.readZone n) s = .next (answered s Kind.readZone .range []))
    ∧ ∀ z : ZoneIx,
      (∀ on : Bool,
        ((s.zoneLive z).power = .absent →
          exec (.zoneLive (z.1 + 1) (flagCode on)) s = .next (answered s Kind.zoneLive .absent []))
        ∧ ((s.zoneLive z).power ≠ .absent →
          ∀ live, live = ((s.zoneSettings z).installLive || on || (s.zoneLive z).keyLive) →
          exec (.zoneLive (z.1 + 1) (flagCode on)) s =
            .next
              (answered (s.setZoneLive z { s.zoneLive z with controllerLive := on, live := live }) Kind.zoneLive .ok
                [if live then 1 else 0])))
      ∧ exec (.readZone (z.1 + 1)) s =
          .next
            (answered { s with signal := { s.signal with clips := s.signal.clips.set z false } } Kind.readZone .ok
              (s.zoneImage z)))
  ∧ ∀ (s : State) (z : ZoneIx) (v : ZoneSettings) (l : ZoneLive), v = s.zoneSettings z → l = s.zoneLive z →
    s.zoneImage z =
      [BitVec.ofNat 8 (v.home.1 + 1), v.listen.setWidth 8] ++ signedBytes v.ceiling ++ signedBytes v.trim
      ++ signedBytes v.duck ++ wordBytes v.precedence ++ wordBytes v.standbyDelay
      ++ [BitVec.ofNat 8 v.wakeTime, if v.installLive then 1 else 0, if v.cueSafe then 1 else 0,
          if v.ringWatch then 1 else 0]
      ++ signedBytes v.ringThreshold ++ [BitVec.ofNat 8 v.persistence] ++ wordBytes v.release
      ++ [BitVec.ofNat 8 (powerCode l.power), if l.controllerLive then 1 else 0, if l.keyLive then 1 else 0,
          if l.live then 1 else 0, if (s.power.amps.get z).settled then 0 else 1, if l.demandPresent then 1 else 0]
      ++ wordBytes (s.engine.demand.get z)
      ++ (match l.timer with
        | .none => [0, 0, 0]
        | .wake left => 1 :: wordBytes ((left + 4799) / 4800)
        | .standby left => 2 :: wordBytes ((left + 4799) / 4800))
      ++ [if s.signal.clips.get z then 1 else 0] ++ signedBytes (s.ringOf z).margin
      ++ [if (s.ringOf z).runaway then 1 else 0]
      ++ match v.key with
        | none => [0]
        | some k => [1, BitVec.ofNat 8 (k.1 + 1)]

/-- SET-ZONE is refused RANGE for a zone, precinct, listen set, key or setting out of range, or with a key and the no-
key marker both. An accepted one writes every field carried, after clamping, with the home precinct added to the
listen set, and is answered CLAMPED exactly where a quantity lay outside its range, with the number of routes it moved
into RETIRING; it retires the routes of the precincts the set has lost; takes a new precedence to the zone's geometric
routes; works the live condition out afresh; and acts on a running or due standby timer. It touches nothing else (R18,
R126, R128, R144, R145, R146). That the key's level is read afresh only where the key changes is the model's reading
(notes/assumptions/22.md). -/
def Obligations.SetZoneEditsOneZone : Prop :=
  (∀ f : ZoneFields,
      zoneClamped f = true ↔
        (∃ x, f.ceiling = some x ∧ (x < -96 ∨ 48 < x)) ∨ (∃ x, f.trim = some x ∧ (x < -96 ∨ 24 < x))
        ∨ (∃ x, f.duck = some x ∧ (x < 0 ∨ 160 < x)) ∨ (∃ x, f.precedence = some x ∧ 300 < x)
        ∨ (∃ x, f.standbyDelay = some x ∧ 3600 < x) ∨ (∃ x, f.wakeTime = some x ∧ (x < 1 ∨ 50 < x))
        ∨ (∃ x, f.ringThreshold = some x ∧ (x < 24 ∨ 120 < x)) ∨ (∃ x, f.persistence = some x ∧ (x < 2 ∨ 8 < x))
        ∨ ∃ x, f.release = some x ∧ (x < 64 ∨ 65535 < x))
  ∧ ∀ s, Ready s →
    (∀ n f, outside 24 n → exec (.setZone n f) s = .next (answered s Kind.setZone .range []))
    ∧ (∀ (z : ZoneIx) (f : ZoneFields),
      (∃ p, f.home = some p ∧ outside 4 p) ∨ (∃ b, f.listen = some b ∧ 15 < b.toNat)
        ∨ (∃ k, f.key = some k ∧ (outside 16 k ∨ f.noKey = true))
        ∨ (∃ x, (f.installLive = some x ∨ f.cueSafe = some x ∨ f.ringWatch = some x) ∧ 1 < x) →
      exec (.setZone (z.1 + 1) f) s = .next (answered s Kind.setZone .range []))
    ∧ ∀ (z : ZoneIx) (f : ZoneFields) (home : Option PrecinctIx) (listen : Option (BitVec 4))
        (install safe watch : Option Bool) (key : Option KeyIx),
      f.home = home.map (fun p => p.1 + 1) → f.listen = listen.map (fun b => b.setWidth 8) →
      f.installLive = install.map flagCode → f.cueSafe = safe.map flagCode → f.ringWatch = watch.map flagCode →
      f.key = key.map (fun k => k.1 + 1) → (f.key = none ∨ f.noKey = false) →
      ∀ old new : ZoneSettings, old = s.zoneSettings z →
      new =
        { home := home.getD old.home
          listen := listen.getD old.listen ||| BitVec.twoPow 4 (home.getD old.home).1
          ceiling := (f.ceiling.map (fun x => max (-96) (min 48 x))).getD old.ceiling
          trim := (f.trim.map (fun x => max (-96) (min 24 x))).getD old.trim
          duck := (f.duck.map (fun x => max 0 (min 160 x))).getD old.duck
          precedence := (f.precedence.map (fun x => min 300 x)).getD old.precedence
          standbyDelay := (f.standbyDelay.map (fun x => min 3600 x)).getD old.standbyDelay
          wakeTime := (f.wakeTime.map (fun x => max 1 (min 50 x))).getD old.wakeTime
          installLive := install.getD old.installLive
          key := if f.noKey then none else if key = none then old.key else key
          cueSafe := safe.getD old.cueSafe
          ringWatch := watch.getD old.ringWatch
          ringThreshold := (f.ringThreshold.map (fun x => max 24 (min 120 x))).getD old.ringThreshold
          persistence := (f.persistence.map (fun x => max 2 (min 8 x))).getD old.persistence
          release := (f.release.map (fun x => max 64 (min 65535 x))).getD old.release } →
      ∃ t,
        exec (.setZone (z.1 + 1) f) s =
          .next
            (answered t Kind.setZone (if zoneClamped f then .clamped else .ok)
              (wordBytes
                (slotCount fun k =>
                  (s.route? k).any fun r =>
                    r.zone = z && listens old.listen (s.inputSettings r.input).precinct
                      && !listens new.listen (s.inputSettings r.input).precinct && r.state ≠ .retiring)))
        ∧ t.store = { s.store with working := { s.store.working with zones := s.store.working.zones.set z new } }
        ∧ (∀ k, t.route? k =
            (s.route? k).map fun r =>
              if r.zone = z ∧ listens old.listen (s.inputSettings r.input).precinct = true
                  ∧ listens new.listen (s.inputSettings r.input).precinct = false then retire r
              else if r.zone = z ∧ old.precedence ≠ new.precedence ∧ r.live.delay = none then retap (t.dueOf r) r
              else r)
        ∧ (∀ y, y ≠ z → t.zoneLive y = s.zoneLive y)
        ∧ (∃ keyLive timer,
          t.zoneLive z =
            { s.zoneLive z with
              keyLive := keyLive
              live := new.installLive || (s.zoneLive z).controllerLive || keyLive
              timer := timer }
          ∧ keyLive = (if old.key = new.key then (s.zoneLive z).keyLive else s.keyReading new.key)
          ∧ (((s.zoneLive z).power = .active ∧ old.standbyDelay ≠ new.standbyDelay
                ∧ ((∃ n, (s.zoneLive z).timer = .standby n)
                  ∨ ((s.zoneLive z).timer = .none ∧ (s.zoneLive z).demandPresent = false ∧ old.standbyDelay = 0))) →
            timer = if new.standbyDelay = 0 then .none else .standby (48000 * new.standbyDelay))
          ∧ (¬((s.zoneLive z).power = .active ∧ old.standbyDelay ≠ new.standbyDelay
                ∧ ((∃ n, (s.zoneLive z).timer = .standby n)
                  ∨ ((s.zoneLive z).timer = .none ∧ (s.zoneLive z).demandPresent = false ∧ old.standbyDelay = 0))) →
            timer = (s.zoneLive z).timer))
        ∧ t =
            { s with
              engine := { s.engine with table := t.engine.table }
              power := { s.power with zones := t.power.zones }
              store := t.store }

/-- SET-GEOMETRY writes the one distance, clamped, and every geometric route into the zone from the station meets its
new due delay at once: a STEADY or RAMPING route whose delay changes enters DIPPING, a DIPPING one takes it as its
pending delay, a HALTED or RETIRING one is left. Nothing else changes (R10, R11, R13, R14, R148). -/
def Obligations.SetGeometryReachesItsRoutes : Prop :=
  ∀ s, Ready s →
    (∀ n m d, outside 16 n ∨ outside 24 m →
      exec (.setGeometry n m d) s = .next (answered s Kind.setGeometry .range []))
    ∧ (∀ (st : StationIx) (z : ZoneIx) (d : Nat),
      ∃ t,
        exec (.setGeometry (st.1 + 1) (z.1 + 1) d) s =
          .next (answered t Kind.setGeometry (if 15000 < d then .clamped else .ok) [])
        ∧ t.distance st z = min 15000 d
        ∧ (∀ st' z', ¬(st' = st ∧ z' = z) → t.distance st' z' = s.distance st' z')
        ∧ (∀ k, t.route? k =
            (s.route? k).map fun r =>
              if r.zone = z ∧ (s.inputSettings r.input).station = st ∧ r.live.delay = none then retap (t.dueOf r) r
              else r)
        ∧ t =
            { s with
              engine := { s.engine with table := t.engine.table }
              store :=
                { s.store with
                  working := { s.store.working with geometry := t.store.working.geometry } } })
    ∧ ∀ (due : Nat) (r : Route),
      (r.state = .steady ∨ r.state = .ramping →
        retap due r = if due = r.delay then r else { r with state := .dipping due })
      ∧ (∀ d, r.state = .dipping d → retap due r = { r with state := .dipping due })
      ∧ (r.state = .retiring ∨ (∃ c, r.state = .halted c) → retap due r = r)

/-- A zone enters FAULT in one event: enable released, timer cancelled, every route into it halted with cause ZONE-
FAULT, ZONE-FAULT and ZONE-CHANGE raised, and the frame under way broken; everything else is untouched. A wake timer's
expiry takes a WAKING zone to ACTIVE when its debounced status is OK, its standby timer starting at once where demand
is absent and the delay is not 0, and to FAULT when it is not; a standby timer's expiry takes an ACTIVE zone to
STANDBY, its enable released. Both raise ZONE-CHANGE and leave every other zone and route alone but for the fault's
halts (R21, R131, R134, R135, R138). That an expiry is an event of its own, not checked against the time left, is the
model's own choice (notes/assumptions/9.md). -/
def Obligations.ZoneTimersAndFaults : Prop :=
  (∀ (s : State) (z : ZoneIx),
      (s.enterFault z).zoneLive z = { s.zoneLive z with power := .fault, ampEnabled := false, timer := .none }
      ∧ (∀ y, y ≠ z → (s.enterFault z).zoneLive y = s.zoneLive y)
      ∧ (∀ k, (s.enterFault z).route? k = (s.route? k).map fun r => if r.zone = z then halt .zoneFault r else r)
      ∧ (∀ r : Route,
          (r.state = .retiring ∨ (∃ c, r.state = .halted c) → halt .zoneFault r = r)
          ∧ (r.state = .steady ∨ r.state = .ramping ∨ (∃ d, r.state = .dipping d) →
            halt .zoneFault r = { r with state := .halted .zoneFault, armed := false }))
      ∧ (s.enterFault z).port.notices = s.port.notices ||| 0x30
      ∧ (s.enterFault z).port.attnLow = attention (s.port.notices ||| 0x30) s.port.mask
      ∧ (s.enterFault z) =
          { s with
            engine := { s.engine with table := (s.enterFault z).engine.table }
            power := { s.power with zones := (s.enterFault z).power.zones }
            ring :=
              { s.ring with
                frames := s.ring.frames.set z { s.ring.frames.get z with active := false } }
            port :=
              { s.port with
                notices := (s.enterFault z).port.notices
                attnLow := (s.enterFault z).port.attnLow } })
  ∧ (∀ (s : State) (z : ZoneIx), s.run = .running →
      (∀ n, (s.zoneLive z).power = .waking → (s.zoneLive z).timer = .wake n →
        ((s.power.amps.get z).settled = true →
          exec (.wakeTimerExpiry (z.1 + 1)) s =
            .next
              ((s.setZoneLive z
                { s.zoneLive z with
                  power := .active
                  timer :=
                    if (s.zoneLive z).demandPresent = true ∨ (s.zoneSettings z).standbyDelay = 0 then .none
                    else .standby (48000 * (s.zoneSettings z).standbyDelay) }).raise .zoneChange))
        ∧ ((s.power.amps.get z).settled = false →
          exec (.wakeTimerExpiry (z.1 + 1)) s = .next (s.enterFault z)))
      ∧ (∀ n, (s.zoneLive z).power = .active → (s.zoneLive z).timer = .standby n →
        ∃ t, exec (.standbyTimerExpiry (z.1 + 1)) s = .next (t.raise .zoneChange)
          ∧ t =
            { s with
              power :=
                { s.power with
                  zones :=
                    s.power.zones.set z { s.zoneLive z with power := .standby, ampEnabled := false, timer := .none } }
              ring :=
                { s.ring with
                  frames := s.ring.frames.set z { s.ring.frames.get z with active := false } } }))

/-- A line of the outside world while the part runs: its raw level is taken at once; a departure from the debounced
value starts the debounce count, which goes on while the level stays away, and a return abandons it. While the part
does not run only the raw level is taken. An amplifier status that has been away for 100 ms is debounced: it is
recorded, and acts by the zone's power state: a change to FAULT takes a WAKING or ACTIVE zone to FAULT, a change to OK
takes a zone in FAULT to STANDBY, its enable released, with ZONE-CHANGE; in any other case it is recorded and nothing
else happens. A key that has been away for 50 ms is debounced: every zone whose record names it takes its level, with
the live condition worked out afresh, and no other zone does. Before that time nothing changes (R127, R128, R129, R137,
R139). That the times, on the clock the part runs on, are counted in whole sample periods is the
model's own choice (notes/assumptions/21.md). -/
def Obligations.LinesDebouncedAndTaken : Prop :=
  (∀ (s : State),
      (∀ (z : ZoneIx) (ok : Bool) (l : Line), l = s.power.amps.get z →
        (s.run = .running →
          exec (.ampokLineChange (z.1 + 1) ok) s =
            .next
              { s with
                power :=
                  { s.power with
                    amps :=
                      s.power.amps.set z
                        { raw := ok, settled := l.settled
                          count := if ok = l.settled then none else some (l.count.getD 0) } } })
        ∧ (s.run ≠ .running →
          exec (.ampokLineChange (z.1 + 1) ok) s =
            .next
              { s with
                power :=
                  { s.power with
                    amps := s.power.amps.set z { raw := ok, settled := l.settled, count := none } } }))
      ∧ ∀ (k : KeyIx) (on : Bool) (l : Line), l = s.power.keys.get k →
        (s.run = .running →
          exec (.keyLineChange (k.1 + 1) on) s =
            .next
              { s with
                power :=
                  { s.power with
                    keys :=
                      s.power.keys.set k
                        { raw := on, settled := l.settled
                          count := if on = l.settled then none else some (l.count.getD 0) } } })
        ∧ (s.run ≠ .running →
          exec (.keyLineChange (k.1 + 1) on) s =
            .next
              { s with
                power :=
                  { s.power with
                    keys := s.power.keys.set k { raw := on, settled := l.settled, count := none } } }))
  ∧ (∀ (s : State), s.run = .running →
      (∀ z : ZoneIx, (∀ n, (s.power.amps.get z).count = some n → n < 4800) →
        exec (.ampStatusDebounced (z.1 + 1)) s = .next s)
      ∧ (∀ k : KeyIx, (∀ n, (s.power.keys.get k).count = some n → n < 2400) →
        exec (.keyDebounced (k.1 + 1)) s = .next s)
      ∧ (∀ (z : ZoneIx) (n : Nat) (u : State), (s.power.amps.get z).count = some n → 4800 ≤ n →
        u =
          { s with
            power :=
              { s.power with
                amps :=
                  s.power.amps.set z
                    { raw := (s.power.amps.get z).raw, settled := (s.power.amps.get z).raw, count := none } } } →
        ((s.zoneLive z).power = .waking ∨ (s.zoneLive z).power = .active → (s.power.amps.get z).raw = false →
          exec (.ampStatusDebounced (z.1 + 1)) s = .next (u.enterFault z))
        ∧ ((s.zoneLive z).power = .fault → (s.power.amps.get z).raw = true →
          ∃ t, exec (.ampStatusDebounced (z.1 + 1)) s = .next (t.raise .zoneChange)
            ∧ t =
              { u with
                power :=
                  { u.power with
                    zones :=
                      s.power.zones.set z
                        { s.zoneLive z with power := .standby, ampEnabled := false, timer := .none } }
                ring :=
                  { s.ring with
                    frames := s.ring.frames.set z { s.ring.frames.get z with active := false } } })
        ∧ ((s.zoneLive z).power = .absent ∨ (s.zoneLive z).power = .standby
            ∨ ((s.zoneLive z).power = .fault ∧ (s.power.amps.get z).raw = false)
            ∨ ((s.zoneLive z).power ≠ .fault ∧ (s.power.amps.get z).raw = true) →
          exec (.ampStatusDebounced (z.1 + 1)) s = .next u))
      ∧ ∀ (k : KeyIx) (n : Nat), (s.power.keys.get k).count = some n → 2400 ≤ n →
        ∃ t, exec (.keyDebounced (k.1 + 1)) s = .next t
          ∧ t.power.keys =
              s.power.keys.set k
                { raw := (s.power.keys.get k).raw, settled := (s.power.keys.get k).raw, count := none }
          ∧ (∀ z, t.zoneLive z =
              if (s.zoneSettings z).key = some k then
                { s.zoneLive z with
                  keyLive := (s.power.keys.get k).raw
                  live :=
                    (s.zoneSettings z).installLive || (s.zoneLive z).controllerLive || (s.power.keys.get k).raw }
              else s.zoneLive z)
          ∧ t = { s with power := { s.power with zones := t.power.zones, keys := t.power.keys } })

/-- A zone's demand count is the number of occupied slots into it that have demand. What the route engine tells the zone
controller of it, and what that does: only a count that leaves zero or becomes zero is told; it moves the demand-present
mark, wakes a zone in STANDBY with its enable asserted, its wake timer running and ZONE-CHANGE raised, cancels an ACTIVE
zone's standby timer, or starts it unless the delay is 0. A zone in ABSENT, WAKING or FAULT takes the mark alone (R40,
R41, R132, R133). -/
def Obligations.DemandMovesZones : Prop :=
  ∀ (s : State) (z : ZoneIx),
    (∀ table, s.demandCount table z =
      slotCount fun k => (table.get k).any fun r => r.zone = z && s.hasDemand r)
    ∧ (∀ old new, (old = 0 ↔ new = 0) → s.takeCount z old new = s)
    ∧ (∀ new, 0 < new → s.takeCount z 0 new = s.takeDemand z true)
    ∧ (∀ old, 0 < old → s.takeCount z old 0 = s.takeDemand z false)
    ∧ (∀ present,
      (s.zoneLive z).power = .absent ∨ (s.zoneLive z).power = .waking ∨ (s.zoneLive z).power = .fault →
      s.takeDemand z present = s.setZoneLive z { s.zoneLive z with demandPresent := present })
    ∧ ((s.zoneLive z).power = .standby →
      s.takeDemand z true =
        (s.setZoneLive z
          { s.zoneLive z with
            demandPresent := true
            power := .waking
            ampEnabled := true
            timer := .wake (4800 * (s.zoneSettings z).wakeTime) }).raise .zoneChange
      ∧ s.takeDemand z false = s.setZoneLive z { s.zoneLive z with demandPresent := false })
    ∧ ((s.zoneLive z).power = .active →
      s.takeDemand z true = s.setZoneLive z { s.zoneLive z with demandPresent := true, timer := .none }
      ∧ s.takeDemand z false =
          s.setZoneLive z
            { s.zoneLive z with
              demandPresent := false
              timer :=
                if (s.zoneSettings z).standbyDelay = 0 then .none
                else .standby (48000 * (s.zoneSettings z).standbyDelay) })

/-! ## Ring control (chapter 8) -/

/-- PIN-NOTCH, the places of R161 in their order: over a notch that covers the bin, which becomes FIXED where it
stands while any other that covers it leaves; in the lowest free slot; in the slot of the earliest DYNAMIC notch; else
FULL. The depth and width are clamped; the working copy's FIXED notches of the zone are those of the new list, and no
other zone's change. A zone or bin out of range is refused RANGE (R150, R161). The mark `fresh` is the model's own
(notes/assumptions/12.md). -/
def Obligations.PinNotchPlacesFixed : Prop :=
  (∀ s, Ready s →
    (∀ n b d w, outside 24 n ∨ b < 4 ∨ 511 < b →
      exec (.pinNotch n b d w) s = .next (answered s Kind.pinNotch .range []))
    ∧ ∀ (z : ZoneIx) (b : Nat) (d : Int) (w : Nat), 4 ≤ b → b ≤ 511 →
      ((s.ringOf z).notches.map Notch.slot).Nodup →
      ∀ (status : Status) (made : Bool → NotchIx → Notch),
      status = (if d < 12 ∨ 72 < d ∨ w < 1 ∨ 10 < w then .clamped else .ok) →
      made = (fun fresh k =>
        { slot := k, kind := .fixed (max 1 (min 10 w)), bin := b, depth := max 12 (min 72 d), sinceHit := 0
          fresh := fresh }) →
      (∀ before n after, (s.ringOf z).notches = before ++ n :: after → n.covers b = true →
        (∀ m, m ∈ before → m.covers b = false) →
        exec (.pinNotch (z.1 + 1) b d w) s =
          .next
            (answered (s.setNotches z (before ++ made n.fresh n.slot :: after.filter (fun m => !m.covers b)))
              Kind.pinNotch status [BitVec.ofNat 8 n.slot.1]))
      ∧ ((∀ m, m ∈ (s.ringOf z).notches → m.covers b = false) →
        (∀ k : NotchIx, (∀ m, m ∈ (s.ringOf z).notches → m.slot ≠ k) →
          (∀ j, j < k → ∃ m, m ∈ (s.ringOf z).notches ∧ m.slot = j) →
          exec (.pinNotch (z.1 + 1) b d w) s =
            .next
              (answered (s.setNotches z ((s.ringOf z).notches ++ [made true k])) Kind.pinNotch status
                [BitVec.ofNat 8 k.1]))
        ∧ ((∀ k : NotchIx, ∃ m, m ∈ (s.ringOf z).notches ∧ m.slot = k) →
          (∀ before n after, (s.ringOf z).notches = before ++ n :: after → n.kind = .dynamic →
            (∀ m, m ∈ before → m.kind ≠ .dynamic) →
            exec (.pinNotch (z.1 + 1) b d w) s =
              .next
                (answered (s.setNotches z (before ++ after ++ [made true n.slot])) Kind.pinNotch status
                  [BitVec.ofNat 8 n.slot.1]))
          ∧ ((∀ m, m ∈ (s.ringOf z).notches → m.kind ≠ .dynamic) →
            exec (.pinNotch (z.1 + 1) b d w) s = .next (answered s Kind.pinNotch .full [])))))
  ∧ ∀ (s t : State) (z : ZoneIx) (ns : List Notch), (ns.map Notch.slot).Nodup → t = s.setNotches z ns →
    t.ringOf z = { s.ringOf z with notches := ns }
    ∧ (∀ y, y ≠ z → t.ringOf y = s.ringOf y ∧ t.store.working.notches.get y = s.store.working.notches.get y)
    ∧ (∀ j fixed, (t.store.working.notches.get z).get j = some fixed ↔
        ∃ m, m ∈ ns ∧ m.slot = j ∧ m.kind = .fixed fixed.width ∧ m.bin = fixed.bin ∧ m.depth = fixed.depth)
    ∧ t =
        { s with
          ring := { s.ring with zones := t.ring.zones }
          store := { s.store with working := { s.store.working with notches := t.store.working.notches } } }

/-- DROP-NOTCH takes the notch of a slot out of the list, and a FIXED one out of the working copy; a slot that holds
none is answered OK and nothing changes. CLEAR-RING clears the latch, the persistence state and the frames since
confirmation, and leaves the margin and the notches. A zone or slot out of range is refused RANGE (R162, R164). -/
def Obligations.DropNotchAndClearRing : Prop :=
  ∀ s, Ready s →
    (∀ n k, outside 24 n ∨ 7 < k → exec (.dropNotch n k) s = .next (answered s Kind.dropNotch .range []))
    ∧ (∀ n, outside 24 n → exec (.clearRing n) s = .next (answered s Kind.clearRing .range []))
    ∧ ∀ z : ZoneIx,
      (∀ k : NotchIx,
        ((∀ m, m ∈ (s.ringOf z).notches → m.slot ≠ k) →
          exec (.dropNotch (z.1 + 1) k.1) s = .next (answered s Kind.dropNotch .ok []))
        ∧ ∀ before n after, (s.ringOf z).notches = before ++ n :: after → n.slot = k →
          ((s.ringOf z).notches.map Notch.slot).Nodup →
          ∃ t, exec (.dropNotch (z.1 + 1) k.1) s = .next (answered t Kind.dropNotch .ok [])
            ∧ t.ringOf z = { s.ringOf z with notches := before ++ after }
            ∧ (∀ y, y ≠ z → t.ringOf y = s.ringOf y ∧ t.store.working.notches.get y = s.store.working.notches.get y)
            ∧ (∀ j fixed, (t.store.working.notches.get z).get j = some fixed ↔
                ∃ m, m ∈ before ++ after ∧ m.slot = j ∧ m.kind = .fixed fixed.width ∧ m.bin = fixed.bin
                  ∧ m.depth = fixed.depth)
            ∧ t =
                { s with
                  ring := { s.ring with zones := t.ring.zones }
                  store :=
                    { s.store with working := { s.store.working with notches := t.store.working.notches } } })
      ∧ exec (.clearRing (z.1 + 1)) s =
          .next
            (answered
              (s.setRing z
                { s.ringOf z with runaway := false, count := 0, candidate := none, sinceConfirm := 0 })
              Kind.clearRing .ok [])

/-- The candidate of a frame: the highest of the 508 bin levels, the lowest-numbered of those that share it, when it
is at or above the ring threshold over the mean, rounded down, and at or above −240; else none (R153). -/
def Obligations.CandidateIsTheHighestBin : Prop :=
  ∀ (threshold : Int) (levels : List Int), levels.length = 508 →
    (∀ b, candidate? threshold levels = some b ↔
      4 ≤ b ∧ b ≤ 511
      ∧ (∀ j, j < 508 → levels.getD j 0 ≤ levels.getD (b - 4) 0)
      ∧ (∀ j, j < b - 4 → levels.getD j 0 < levels.getD (b - 4) 0)
      ∧ threshold ≤ levels.getD (b - 4) 0 - levels.sum / 508
      ∧ -240 ≤ levels.getD (b - 4) 0)
    ∧ (24 ≤ threshold → levels = List.replicate 508 (-480) → candidate? threshold levels = none)

/-- The persistence state and the answer to a confirmation: a count that reaches the persistence setting confirms at
the candidate bin and returns to 0, with the frames since confirmation. The earliest notch that covers it is hit: a
DYNAMIC one below 72 deepens by 12 to at most 72, any other is left and costs a margin step of 4, from 48 the runaway.
Where none covers it a DYNAMIC notch of depth 24 takes the lowest free slot, or that of the earliest DYNAMIC notch, or,
with eight FIXED notches, a margin step is taken. In runaway the confirmation is ignored (R154, R155, R156, R157, R158,
R160). That the frames since confirmation are 0 also at the result that enters runaway is the model's reading
(notes/assumptions/13.md). The mark `fresh` is the model's own (notes/assumptions/12.md). -/
def Obligations.ConfirmationsAnswered : Prop :=
  ∀ (v : ZoneSettings) (r : Ring),
    (∀ c, (r.persist c).notches = r.notches ∧ (r.persist c).margin = r.margin
      ∧ (r.persist c).runaway = r.runaway ∧ (r.persist c).sinceConfirm = r.sinceConfirm
      ∧ (r.persist c).candidate = c
      ∧ (r.persist c).count =
          match c, r.candidate with
          | none, _ => 0
          | some _, none => 1
          | some b, some h => if b ≤ h + 1 ∧ h ≤ b + 1 then r.count + 1 else 1)
    ∧ (∀ c, c = none ∨ (r.persist c).count < v.persistence →
      (r.frameOutcome v c).ringAction = false ∧ (r.frameOutcome v c).runaway = false)
    ∧ (∀ b, v.persistence ≤ (r.persist (some b)).count →
      (r.runaway = true →
        r.frameOutcome v (some b) =
          { ring := { r.persist (some b) with count := 0 }, ringAction := false, runaway := false })
      ∧ (r.runaway = false →
        (r.frameOutcome v (some b)).ringAction = true
        ∧ (r.frameOutcome v (some b)).ring.count = 0
        ∧ (r.frameOutcome v (some b)).ring.candidate = some b
        ∧ (r.frameOutcome v (some b)).ring.sinceConfirm = 0
        ∧ ((r.frameOutcome v (some b)).runaway = true ↔ (r.answer b).margin = true ∧ 48 ≤ r.margin)
        ∧ (r.frameOutcome v (some b)).ring.runaway = (r.frameOutcome v (some b)).runaway
        ∧ (r.frameOutcome v (some b)).ring.margin =
            (if (r.answer b).margin = true ∧ r.margin < 48 then min 48 (r.margin + 4) else r.margin)))
    ∧ ∀ b, (r.notches.map Notch.slot).Nodup →
      (∀ before n after, r.notches = before ++ n :: after → n.covers b = true →
        (∀ m, m ∈ before → m.covers b = false) →
        (n.kind = .dynamic → n.depth < 72 →
          r.answer b =
            { ring :=
                { r with notches := before ++ { n with sinceHit := 0, depth := min 72 (n.depth + 12) } :: after }
              hit := some n.slot
              margin := false })
        ∧ ((n.kind = .dynamic ∧ 72 ≤ n.depth) ∨ (∃ w, n.kind = .fixed w) →
          r.answer b =
            { ring := { r with notches := before ++ { n with sinceHit := 0 } :: after }
              hit := some n.slot
              margin := true }))
      ∧ ((∀ m, m ∈ r.notches → m.covers b = false) →
        ∀ made : NotchIx → Notch,
        made = (fun k => { slot := k, kind := .dynamic, bin := b, depth := 24, sinceHit := 0, fresh := true }) →
        (∀ k : NotchIx, (∀ m, m ∈ r.notches → m.slot ≠ k) → (∀ j, j < k → ∃ m, m ∈ r.notches ∧ m.slot = j) →
          r.answer b =
            { ring := { r with notches := r.notches ++ [made k] }, hit := some k, margin := false })
        ∧ ((∀ k : NotchIx, ∃ m, m ∈ r.notches ∧ m.slot = k) →
          (∀ before n after, r.notches = before ++ n :: after → n.kind = .dynamic →
            (∀ m, m ∈ before → m.kind ≠ .dynamic) →
            r.answer b =
              { ring := { r with notches := before ++ after ++ [made n.slot] }
                hit := some n.slot
                margin := false })
          ∧ ((∀ m, m ∈ r.notches → m.kind ≠ .dynamic) → r.answer b = { ring := r, hit := none, margin := true })))

/-- Release and recovery at a watched frame: every notch not hit ages by a frame, up to 65,535; a DYNAMIC one whose
age has reached the release time gives 12 back and starts afresh, or leaves where it stood at 12 or less; a FIXED one
stays. Without a confirmation the frames since confirmation rise, and at the release time the margin falls by 4, not
below 0. In runaway, with no confirmation to answer, none of this happens (R159, R160). That a notch just placed counts
as hit, and does not age at that result, is the model's reading (notes/assumptions/13.md). -/
def Obligations.NotchesReleaseAndMarginsRecover : Prop :=
  ∀ (v : ZoneSettings) (r : Ring),
    (∀ (hit : Option NotchIx) (n : Notch) (age : Nat), age = min 65535 (n.sinceHit + 1) →
      (hit = some n.slot → ageNotch v.release hit n = some n)
      ∧ (hit ≠ some n.slot →
        ((∃ w, n.kind = .fixed w) ∨ age < v.release → ageNotch v.release hit n = some { n with sinceHit := age })
        ∧ (n.kind = .dynamic → v.release ≤ age →
          (12 < n.depth → ageNotch v.release hit n = some { n with depth := n.depth - 12, sinceHit := 0 })
          ∧ (n.depth ≤ 12 → ageNotch v.release hit n = none))))
    ∧ (∀ c, c = none ∨ (r.persist c).count < v.persistence →
      ∀ p : Ring, p = r.persist c →
      (r.runaway = true → (r.frameOutcome v c).ring = p)
      ∧ (r.runaway = false →
        (r.frameOutcome v c).ring =
          { p with
            notches := r.notches.filterMap (ageNotch v.release none)
            margin := if v.release ≤ min 65535 (r.sinceConfirm + 1) then r.margin - 4 else r.margin
            sinceConfirm :=
              if v.release ≤ min 65535 (r.sinceConfirm + 1) then 0 else min 65535 (r.sinceConfirm + 1) }))
    ∧ ∀ b, v.persistence ≤ (r.persist (some b)).count → r.runaway = false →
      ¬((r.answer b).margin = true ∧ 48 ≤ r.margin) →
      (r.frameOutcome v (some b)).ring.notches =
        (r.answer b).ring.notches.filterMap (ageNotch v.release (r.answer b).hit)

/-- Analysis frames are cut for every zone at once, without gap or overlap, at the 64th block completion since they
began; the next is whole only where its zone is ACTIVE at its first block; the first after a RESTART begins with the
next block. At the end of a frame the frame that was cut becomes due in every zone, a result still due being taken
before it. A zone's frame result takes the frame due: a zone not watched loses its persistence state alone; a watched
one takes the outcome of its candidate, with its notices, and entering runaway halts every route into it with cause
RING. No other zone is touched. The levels are those of the frame's own 2,048 samples, 508 in all, in −480..+96: every
one −480 for a silent frame, and at a bin 0 for a full-scale sine at its centre, −24 for one of half scale, and for any
amplitude 80·log10 of its part of full scale to the last places of the samples. For every frame a bin's level is
80·log10 of the magnitude that one windowed transform gives the bin, relative to that of a full-scale sine at its
centre, to half of a sample's last place, or to the like part of the loudest sample beyond full scale (R21, R152, R153,
R157, R158). The wait after a RESTART and the list of cut frames are the model's own choices (notes/assumptions/20.md),
and so are full scale and the precision of the transform (notes/assumptions/4.md) and that a frame end with no frame
cut and a frame result with no frame due change nothing (notes/assumptions/10.md). -/
def Obligations.FramesCutAndJudged : Prop :=
  (∀ s : State,
    (∀ n, s.ring.blocks = some n → n + 1 < 64 → frameBlock s = { s.ring with blocks := some (n + 1) })
    ∧ ((∃ n, s.ring.blocks = some n ∧ 64 ≤ n + 1) →
      (frameBlock s).blocks = some 0 ∧ (frameBlock s).zones = s.ring.zones
      ∧ ∀ z f, f = s.ring.frames.get z →
        (frameBlock s).frames.get z =
          { active := decide ((s.zoneLive z).power = .active), samples := []
            ended := f.ended ++ [{ active := f.active, samples := f.samples }], due := f.due })
    ∧ (s.ring.blocks = none →
      (frameBlock s).blocks = some 0 ∧ (frameBlock s).zones = s.ring.zones
      ∧ ∀ z, (frameBlock s).frames.get z =
        { active := decide ((s.zoneLive z).power = .active), samples := [], ended := [], due := none }))
  ∧ (∀ s : State, s.run = .running →
    exec .analysisFrameEnd s = .next ((List.finRange 24).foldl State.endZoneFrame s)
    ∧ ∀ z : ZoneIx,
      ((s.ring.frames.get z).ended = [] → s.endZoneFrame z = s)
      ∧ ∀ f rest, (s.ring.frames.get z).ended = f :: rest →
        ∀ u, exec (.frameResult (z.1 + 1) ()) s = .next u →
        s.endZoneFrame z =
          { u with
            ring :=
              { u.ring with
                frames := u.ring.frames.set z { u.ring.frames.get z with ended := rest, due := some f } } })
  ∧ (∀ (s : State) (z : ZoneIx), s.run = .running → (s.ring.frames.get z).due = none →
    exec (.frameResult (z.1 + 1) ()) s = .next s)
  ∧ (∀ (s : State) (z : ZoneIx) (f : FrameCapture), s.run = .running → (s.ring.frames.get z).due = some f →
    ∀ u : State,
    u =
      { s with
        ring :=
          { s.ring with
            frames := s.ring.frames.set z { s.ring.frames.get z with due := none } } } →
    (f.active = false ∨ (s.zoneLive z).live = false ∨ (s.zoneSettings z).ringWatch = false →
      exec (.frameResult (z.1 + 1) ()) s = .next (u.setRing z { s.ringOf z with candidate := none, count := 0 }))
    ∧ (f.active = true → (s.zoneLive z).live = true → (s.zoneSettings z).ringWatch = true →
      ∀ o : FrameOutcome,
      o =
        (s.ringOf z).frameOutcome (s.zoneSettings z)
          (candidate? (s.zoneSettings z).ringThreshold (frameLevels f)) →
      ∃ t, exec (.frameResult (z.1 + 1) ()) s = .next t
        ∧ t.ringOf z = o.ring
        ∧ (∀ y, y ≠ z → t.ringOf y = s.ringOf y)
        ∧ (∀ k, t.route? k =
            (s.route? k).map fun r => if o.runaway = true ∧ r.zone = z then halt .ring r else r)
        ∧ t.port.notices =
            s.port.notices ||| (if o.ringAction then 0x40 else 0) ||| (if o.runaway then 0x80 else 0)
        ∧ t =
            { s with
              engine := { s.engine with table := t.engine.table }
              ring := { u.ring with zones := t.ring.zones }
              port := { s.port with notices := t.port.notices, attnLow := t.port.attnLow } }))
  ∧ (∀ f : FrameCapture,
    (frameLevels f).length = 508
    ∧ (∀ x, x ∈ frameLevels f → -480 ≤ x ∧ x ≤ 96)
    ∧ ((∀ x, x ∈ f.samples → x = 0) → frameLevels f = List.replicate 508 (-480))
    ∧ ∀ (b : Nat) (phase : ℝ) (x : Nat → Int), 4 ≤ b → b ≤ 511 →
      (IsTone (b * 23.4375) 8388608 phase x → f.samples.reverse = (List.range 2048).map x →
        (frameLevels f).getD (b - 4) (-480) = 0)
      ∧ (IsTone (b * 23.4375) 4194304 phase x → f.samples.reverse = (List.range 2048).map x →
        (frameLevels f).getD (b - 4) (-480) = -24)
      ∧ ∀ amplitude : ℝ, 0 ≤ amplitude → IsTone (b * 23.4375) amplitude phase x →
        f.samples.reverse = (List.range 2048).map x →
        ∃ m : ℝ, |8388608 * m - amplitude| ≤ 2 + amplitude / 2 ^ 23
          ∧ IsLevel m ((frameLevels f).getD (b - 4) (-480)))
  ∧ ∃ window, IsWindow window ∧
    ∀ (f : FrameCapture) (b : Nat) (peak ideal : ℝ), f.samples.length = 2048 → 4 ≤ b → b ≤ 511 → 8388608 ≤ peak →
      (∀ v, v ∈ f.samples → |(v : ℝ)| ≤ peak) → IsMagnitude window (fun n => f.samples.reverse.getD n 0) b ideal →
      ∃ m : ℝ, |8388608 * m - ideal| ≤ peak / 2 ^ 24 ∧ IsLevel m ((frameLevels f).getD (b - 4) (-480))

/-! ## Gain, delay and sound (chapters 2, 3 and 9) -/

/-- The target gain: −480 with LIMITED clear under any OFF condition; else L + T + Z − N − G − D − M between the floor
and the zone's ceiling, LIMITED set by the ceiling alone. N is charged to an AUTO input by the length of its
precinct's list, G to one whose gate is CLOSED, D once to a route that is not ANNOUNCE where some route into the zone
qualifies, and M is the zone's margin; NOMTAB[n] is 40·log10 n to the nearest integer. A route has demand when it is
STEADY, RAMPING or DIPPING, its zone live, its input not MUTED, its live level above −480 and its raw gain above −480,
whatever the zone's power state (R29 to R36, R40). -/
def Obligations.TargetGainByItsTerms : Prop :=
  (∀ (s : State) (r : Route),
    ((∃ c, r.state = .halted c) ∨ r.state = .retiring ∨ (∃ d, r.state = .dipping d) ∨ r.live.level = -480
        ∨ (s.inputSettings r.input).mode = .muted ∨ (s.zoneLive r.zone).live = false
        ∨ (s.zoneLive r.zone).power ≠ .active →
      s.evalTarget r = (-480, false))
    ∧ (r.state = .steady ∨ r.state = .ramping → r.live.level ≠ -480 → (s.inputSettings r.input).mode ≠ .muted →
      (s.zoneLive r.zone).live = true → (s.zoneLive r.zone).power = .active →
      ∀ i z, i = s.inputSettings r.input → z = s.zoneSettings r.zone →
      ∀ n g d raw : Int,
      n = (if i.mode = .auto then nomtab (s.listOf i.precinct).length else 0) →
      g = (if i.mode = .auto ∧ (s.gates.inputs.get r.input).gate = .closed then i.closedAtt else 0) →
      d = (if i.cls ≠ .announce ∧ s.announcedIn r.zone = true then z.duck else 0) →
      raw = r.live.level + i.trim + z.trim - n - g - d - (s.ringOf r.zone).margin →
      (z.ceiling < raw → s.evalTarget r = (z.ceiling, true))
      ∧ (raw ≤ z.ceiling → -480 ≤ raw → s.evalTarget r = (raw, false))
      ∧ (raw ≤ z.ceiling → raw < -480 → s.evalTarget r = (-480, false))))
  ∧ (∀ (s : State) (r : Route) i z, i = s.inputSettings r.input → z = s.zoneSettings r.zone →
    ∀ n g d raw : Int,
    n = (if i.mode = .auto then nomtab (s.listOf i.precinct).length else 0) →
    g = (if i.mode = .auto ∧ (s.gates.inputs.get r.input).gate = .closed then i.closedAtt else 0) →
    d = (if i.cls ≠ .announce ∧ s.announcedIn r.zone = true then z.duck else 0) →
    raw = r.live.level + i.trim + z.trim - n - g - d - (s.ringOf r.zone).margin →
    (s.hasDemand r = true ↔
      (r.state = .steady ∨ r.state = .ramping ∨ ∃ p, r.state = .dipping p)
      ∧ (s.zoneLive r.zone).live = true ∧ i.mode ≠ .muted ∧ -480 < r.live.level ∧ -480 < raw))
  ∧ (∀ (s : State) (z : ZoneIx), s.announcedIn z = true ↔
      ∃ k r, s.route? k = some r ∧ r.zone = z ∧ (s.inputSettings r.input).cls = .announce
        ∧ ((s.inputSettings r.input).mode = .fixed
          ∨ ((s.inputSettings r.input).mode = .auto ∧ (s.gates.inputs.get r.input).gate ≠ .closed))
        ∧ (r.state = .steady ∨ r.state = .ramping) ∧ -480 < r.live.level)
  ∧ nomtab 0 = 0 ∧ nomtab 1 = 0
  ∧ ∀ n, 2 ≤ n → n ≤ 16 → 10 ^ (2 * (nomtab n).toNat - 1) ≤ n ^ 80 ∧ n ^ 80 < 10 ^ (2 * (nomtab n).toNat + 1)

/-- Step 4 for one route: the target field and LIMITED take the evaluation, and the current moves toward the target at
the rate of the route's state, landing on it and never passing it. A STEADY or RAMPING route is STEADY exactly at its
target; a DIPPING route at OFF takes its pending delay and becomes RAMPING; a HALTED one at OFF takes its due delay; a
RETIRING one at OFF leaves its slot FREE (R5, R12, R14, R16, R37, R38). -/
def Obligations.RouteStepsByState : Prop :=
  (∀ (n : Nat) (c t : Int),
    (n = 0 → rampStep n c t = t)
    ∧ (0 < n → (t - c).natAbs ≤ n → rampStep n c t = t)
    ∧ (0 < n → n < (t - c).natAbs → c < t → rampStep n c t = c + n)
    ∧ (0 < n → n < (t - c).natAbs → t < c → rampStep n c t = c - n))
  ∧ ∀ (r : Route) (due : Nat) (target : Int) (limited : Bool),
    (r.state = .steady ∨ r.state = .ramping →
      ∀ now, now = rampStep r.live.rate r.current target →
      settleRoute due (target, limited) r =
        some
          { r with
            target := target, limited := limited, current := now
            state := if now = target then .steady else .ramping })
    ∧ (∀ d, r.state = .dipping d →
      ∀ now, now = rampStep 16 r.current target →
      settleRoute due (target, limited) r =
        some
          (if now = -480 then
            { r with target := target, limited := limited, current := now, state := .ramping, delay := d }
          else { r with target := target, limited := limited, current := now }))
    ∧ (∀ c, r.state = .halted c →
      ∀ now, now = rampStep 16 r.current target →
      settleRoute due (target, limited) r =
        some
          { r with
            target := target, limited := limited, current := now
            delay := if now = -480 then due else r.delay })
    ∧ (r.state = .retiring →
      ∀ now, now = rampStep r.live.rate r.current target →
      settleRoute due (target, limited) r =
        if now = -480 then none else some { r with target := target, limited := limited, current := now })

/-- The arithmetic of gain and delay: the coefficient of g is 2,097,152 × 10^(g/80) to the nearest integer, 0 at −480
and at least 2 above it; a block peak is 80·log10 of the magnitude over 8,388,608 to the nearest integer, within
−480..0; the two terms of a geometric delay are rounded to the nearest sample, and their sum is at most 22,431 (R42,
R46, R48). -/
def Obligations.ArithmeticRounds : Prop :=
  coefficient (-480) = 0
  ∧ (∀ g : Int, -480 < g → g ≤ 48 →
    2 ≤ coefficient g ∧ coefficient g ≤ 8348912
    ∧ (2 * coefficient g - 1) ^ 80 * 10 ^ (-g).toNat ≤ 4194304 ^ 80 * 10 ^ g.toNat
    ∧ 4194304 ^ 80 * 10 ^ g.toNat < (2 * coefficient g + 1) ^ 80 * 10 ^ (-g).toNat)
  ∧ blockPeak 0 = -480
  ∧ (∀ m : Nat, 0 < m → m ≤ 8388608 →
    ∃ q : Nat, blockPeak m = -(q : Int) ∧ q ≤ 480
      ∧ (0 < q → m ^ 160 * 10 ^ (2 * q - 1) < 8388608 ^ 160)
      ∧ (q < 480 → 8388608 ^ 160 ≤ m ^ 160 * 10 ^ (2 * q + 1)))
  ∧ ∀ d p : Nat,
    geometricDelay d p = (d * 480 + 171) / 343 + (24 * p + 2) / 5
    ∧ 2 * (480 * d) < 343 * (2 * ((d * 480 + 171) / 343) + 1) ∧ 343 * (2 * ((d * 480 + 171) / 343)) < 2 * (480 * d) + 343
    ∧ 2 * (24 * p) < 5 * (2 * ((24 * p + 2) / 5) + 1) ∧ 5 * (2 * ((24 * p + 2) / 5)) < 2 * (24 * p) + 5
    ∧ (d ≤ 15000 → p ≤ 300 → geometricDelay d p ≤ 22431)

/-- Step 1 of a completion: every armed route that is STEADY or RAMPING, and no other, exchanges its banks, loses its
arm and inverts its flip indicator; it enters DIPPING where the due delay of its new live bank is not its delay in
use. FLIPPED is raised exactly when some route has flipped, and nothing else changes (R59, R60, R61, R62). -/
def Obligations.FlipExchangesBanks : Prop :=
  ∀ (s : State),
    (∀ k r, s.route? k = some r → r.armed = true → r.state = .steady ∨ r.state = .ramping →
      ∀ due, due = s.dueDelay r.input r.zone r.staged →
      (flipStep s).route? k =
        some
          { r with
            live := r.staged, staged := r.live, armed := false, flip := !r.flip
            state := if due = r.delay then r.state else .dipping due })
    ∧ (∀ k, (∀ r, s.route? k = some r → ¬(r.armed = true ∧ (r.state = .steady ∨ r.state = .ramping))) →
      (flipStep s).route? k = s.route? k)
    ∧ ((∃ k r, s.route? k = some r ∧ r.armed = true ∧ (r.state = .steady ∨ r.state = .ramping)) →
      flipStep s =
        { (s.raise .flipped) with engine := { s.engine with table := (flipStep s).engine.table } })
    ∧ ((∀ k r, s.route? k = some r → ¬(r.armed = true ∧ (r.state = .steady ∨ r.state = .ramping))) →
      flipStep s = s)

/-- SET-EQ replaces the preset's whole band list with the list carried, its quantities clamped; preset 0 or above 15,
more than four bands, an unknown kind or a HIGH-PASS with a gain is refused RANGE; the answer is CLAMPED exactly where
a quantity lay outside its range. A band that lacks a gain and takes one gets 0. Nothing else changes. Preset 0 is
flat. Each band has at every frequency a level, shaped as its kind says by its frequency, gain and width, and one of
gain 0 that is no HIGH-PASS leaves the samples unchanged (R171, R173). The responses put in numbers are the model's own
choice (notes/assumptions/3.md). -/
def Obligations.SetEqReplacesPreset : Prop :=
  (∀ s, Ready s → ∀ bands,
    (∀ n, outside 15 n → exec (.setEq n bands) s = .next (answered s Kind.setEq .range []))
    ∧ ∀ p : Fin 15,
      (4 < bands.length ∨ (∃ b, b ∈ bands ∧ eqBand? b = none) →
        exec (.setEq (p.1 + 1) bands) s = .next (answered s Kind.setEq .range []))
      ∧ ∀ stored : List EqBand, bands.length ≤ 4 → bands.map eqBand? = stored.map some →
        exec (.setEq (p.1 + 1) bands) s =
          .next
            (answered
              { s with
                store :=
                  { s.store with
                    working := { s.store.working with presets := s.store.working.presets.set p stored } } }
              Kind.setEq (if bands.any bandClamped then .clamped else .ok) []))
  ∧ (∀ (frequency width : Nat) (gain : Option Int),
    (∀ g, eqBand? { kind := 3, frequency := frequency, gain := some g, width := width } = none)
    ∧ eqBand? { kind := 3, frequency := frequency, gain := none, width := width } =
        some { kind := .highPass, frequency := max 20 (min 20000 frequency), gain := none, width := max 1 (min 40 width) }
    ∧ (∀ kind, 3 < kind → eqBand? { kind := kind, frequency := frequency, gain := gain, width := width } = none)
    ∧ ∀ k : BandKind, k ≠ .highPass →
      eqBand? { kind := bandKindCode k, frequency := frequency, gain := gain, width := width } =
        some
          { kind := k, frequency := max 20 (min 20000 frequency), gain := some (max (-60) (min 48 (gain.getD 0)))
            width := max 1 (min 40 width) })
  ∧ (∀ b : BandForm,
    bandClamped b = true ↔
      b.frequency < 20 ∨ 20000 < b.frequency ∨ (∃ g, b.gain = some g ∧ (g < -60 ∨ 48 < g)) ∨ b.width < 1
        ∨ 40 < b.width)
  ∧ (∀ w : WorkingCopy, bandsOf w 0 = [] ∧ ∀ (p : PresetIx) (k : Fin 15), p.1 = k.1 + 1 → bandsOf w p = w.presets.get k)
  ∧ (∃ level, EqResponse runBand level)
  ∧ ∀ (b : EqBand) (m : FilterMemory) (x : Int), b.kind ≠ .highPass → b.gain = some 0 → (runBand b m x).2 = x

/-- One sample period: inputs 1..32 come on channels 1..8 of AIN 1..4 and zones 1..24 go out on channels 1..8 of AOUT
1..3, in ascending order; each input's sample enters its delay line, which gives back any of the last 24,001 samples,
and its block peak; a zone that forms no bus sends 0; a bus is the rounded sum of each tap's sample after its bands,
saturated, times its coefficient, and goes through the zone's notches one after another, each with its response; the
value after them is saturated to 24 bits, with CLIP set where that changes an ACTIVE zone's sample, and enters the
zone's analysis frame unsaturated. Timers and counts move by one sample period. The routes, gates, ring fields and the
installation do not change (R43 to R46, R168 to R172, R175, R176). That CLIP asks for the zone to be ACTIVE now, that
timers count sample periods, and the responses put in numbers, are the model's own choices (notes/assumptions/3.md,
14.md and 21.md), and so are that a band's filter memory goes by its place in the list, places beyond a shorter list
keeping theirs (notes/assumptions/11.md), and that no sample is kept while the first frame after a RESTART waits
(notes/assumptions/20.md). -/
def Obligations.SamplePeriodMovesEverySample : Prop :=
  (∀ (s : State) (ain : Table (Table SampleWord 8) 4) (xs : Table SampleWord 32), s.run = .running →
    (∀ (i : InputIx) (lane : Fin 4) (channel : Fin 8), i.1 = 8 * lane.1 + channel.1 →
      xs.get i = (ain.get lane).get channel) →
    ∃ t, exec (.samplePeriod ain) s = .next t
      ∧ (∀ (z : ZoneIx) (lane : Fin 3) (channel : Fin 8), z.1 = 8 * lane.1 + channel.1 →
        (t.aout lane channel).toInt = t.signal.outputs.get z)
      ∧ (∀ i, lineAt (t.signal.lines.get i) 0 = (xs.get i).toInt
        ∧ (∀ d, d < 24000 → lineAt (t.signal.lines.get i) (d + 1) = lineAt (s.signal.lines.get i) d)
        ∧ (∀ d, 24000 < d → lineAt (t.signal.lines.get i) d = 0)
        ∧ t.signal.peaks.get i = max (s.signal.peaks.get i) (xs.get i).toInt.natAbs)
      ∧ (∀ z, s.signal.buses.get z = none → t.signal.outputs.get z = 0)
      ∧ (∀ z, s.signal.buses.get z = some [] →
        (∀ k p, s.signal.taps.get k = some p → p.zone = z → p.bands = []) →
        t.signal.outputs.get z =
          saturate
            (roundBus
              ((List.finRange 256).map fun k =>
                match s.signal.taps.get k with
                | some p =>
                  if p.zone = z then saturate (lineAt (t.signal.lines.get p.input) p.delay) * p.coeff else 0
                | none => 0).sum))
      ∧ (∀ k, t.signal.eqMemory.get k =
          match s.signal.taps.get k with
          | some p =>
            (runBands p.bands (s.signal.eqMemory.get k) (lineAt (t.signal.lines.get p.input) p.delay)).1
          | none => s.signal.eqMemory.get k)
      ∧ (∀ z, ∃ v : Int, t.signal.outputs.get z = saturate v
        ∧ (s.signal.buses.get z = none → v = 0 ∧ t.signal.notchMem.get z = s.signal.notchMem.get z)
        ∧ (∀ cuts, s.signal.buses.get z = some cuts →
          (t.signal.notchMem.get z, v) =
            runNotches cuts (s.signal.notchMem.get z)
              (roundBus
                ((List.finRange 256).map fun k =>
                  match s.signal.taps.get k with
                  | some p =>
                    if p.zone = z then
                      saturate
                          (runBands p.bands (s.signal.eqMemory.get k)
                            (lineAt (t.signal.lines.get p.input) p.delay)).2
                        * p.coeff
                    else 0
                  | none => 0).sum))
        ∧ (t.signal.clips.get z = true ↔
          s.signal.clips.get z = true ∨ ((s.zoneLive z).power = .active ∧ saturate v ≠ v))
        ∧ t.ring.frames.get z =
            { s.ring.frames.get z with
              samples :=
                if s.ring.blocks = none then (s.ring.frames.get z).samples
                else v :: (s.ring.frames.get z).samples })
      ∧ (∀ z, t.zoneLive z =
          { s.zoneLive z with
            timer :=
              match (s.zoneLive z).timer with
              | .none => .none
              | .wake n => .wake (n - 1)
              | .standby n => .standby (n - 1) })
      ∧ (∀ z, t.power.amps.get z =
          { s.power.amps.get z with count := (s.power.amps.get z).count.map (· + 1) })
      ∧ (∀ k, t.power.keys.get k =
          { s.power.keys.get k with count := (s.power.keys.get k).count.map (· + 1) })
      ∧ t.signal.clock =
          { s.signal.clock with
            timePresent :=
              if s.signal.clock.present then min 48000 (s.signal.clock.timePresent + 1)
              else s.signal.clock.timePresent }
      ∧ t =
          { s with
            power := t.power
            ring := { s.ring with frames := t.ring.frames }
            signal :=
              { s.signal with
                lines := t.signal.lines, elapsed := s.signal.elapsed + 1, peaks := t.signal.peaks
                eqMemory := t.signal.eqMemory, notchMem := t.signal.notchMem, outputs := t.signal.outputs
                clips := t.signal.clips, clock := t.signal.clock }
            port := { s.port with gap := s.port.gap.map (· + 1) } })
  ∧ (∀ x : Int, saturate x = max (-8388608) (min 8388607 x))
  ∧ (∀ sum : Int, 2097152 * roundBus sum ≤ sum + 1048576 ∧ sum + 1048576 < 2097152 * (roundBus sum + 1))
  ∧ (∀ (ms : List FilterMemory) (x : Int),
    runBands [] ms x = (ms, x)
    ∧ ∀ b bs m y ms' z, runBand b (ms.headD []) x = (m, y) → runBands bs ms.tail y = (ms', z) →
      runBands (b :: bs) ms x = (m :: ms', z))
  ∧ (∀ (ms : Table FilterMemory 8) (x : Int),
    runNotches [] ms x = (ms, x)
    ∧ ∀ k c cs m y, runNotch c (ms.get k) x = (m, y) → runNotches ((k, c) :: cs) ms x = runNotches cs (ms.set k m) y)
  ∧ ∀ c : NotchCut, 4 ≤ c.bin → c.bin ≤ 511 → 1 ≤ c.width → c.width ≤ 10 →
    Bell (runNotch c) (c.bin * 23.4375) (-c.depth) c.width

/-- A block completion: the gate unit works on the block's peaks; the route engine flips what is due, takes the oldest
cue, evaluates every occupied slot from the state after both and steps it, counts each zone's demand over the stepped
table, telling the zone controller of a count that leaves zero or becomes zero, and moves a scan on. Then the next
block begins: each slot's tap from its route, an empty memory for a FREE slot, a bus for exactly the ACTIVE zones with
its notches in ascending slot order, a notch memory kept only where notch and bus go on, the frame one block on, and a
waiting move to the house clock made. Whether the gates have moved before the targets are read, and how many of the
take's ZONE entries have been taken by then, are operands (R27, R28, R41, R42, R85, R132, R152, R170, R172, R175, R176,
R178). The operands are the model's own (notes/assumptions/5.md), and so are the mark `fresh`, with which a notch's
memory starts from silence (notes/assumptions/12.md), and the block that runs on over a RESTART, whose route filter
memories are discarded at its end (notes/assumptions/15.md). -/
def Obligations.BlockCompletionWorksInOrder : Prop :=
  (∀ (s : State) (gateFirst : Bool) (zonesFirst : Nat), s.run = .running →
    ∃ t, exec (.blockCompletion gateFirst zonesFirst) s = .next t
      ∧ t.gates = gateWork (s.signal.peaks.map blockPeak) s.store.working s.gates
      ∧ (s.engine.queue = [] → s.engine.scan = none →
        ∀ u : State, u = flipStep { s with gates := if gateFirst then t.gates else s.gates } →
        (∀ k, t.route? k =
          (u.route? k).bind fun r => settleRoute (u.dueOf r) (u.evalTarget r) r)
        ∧ (∀ z, t.engine.demand.get z = u.demandCount t.engine.table z)
        ∧ t.engine.queue = [] ∧ t.engine.scan = none ∧ t.engine.result = s.engine.result
        ∧ ∀ z, (t.zoneLive z).power = (s.zoneLive z).power
          ∨ ((s.zoneLive z).power = .standby ∧ (t.zoneLive z).power = .waking
            ∧ s.engine.demand.get z = 0 ∧ 0 < t.engine.demand.get z))
      ∧ (∀ (a : State) (handed : List Handed),
        takeCue (flipStep { s with gates := if gateFirst then t.gates else s.gates }) = (a, handed) →
        ∀ e : State,
        e =
          scanStep
            (takeHanded (settleStep (takeHanded a (handed.take zonesFirst))) (handed.drop zonesFirst)) →
        t.engine = e.engine ∧ t.power = e.power ∧ t.port = e.port
        ∧ t.ring.blocks = (frameBlock e).blocks ∧ t.ring.frames = (frameBlock e).frames
        ∧ ∀ k, t.signal.eqMemory.get k =
          if s.ring.blocks ≠ none ∧ t.route? k ≠ none then e.signal.eqMemory.get k else [])
      ∧ (∀ k, t.signal.taps.get k = (t.route? k).map (tapOf s.store.working))
      ∧ (∀ k, t.route? k = none → t.signal.eqMemory.get k = [])
      ∧ (∀ z, t.signal.buses.get z =
          if (t.zoneLive z).power = .active then some (cutsOf (s.ringOf z).notches) else none)
      ∧ (∀ z k, (t.signal.notchMem.get z).get k =
          if (s.signal.buses.get z).isSome = true ∧ (t.zoneLive z).power = .active
              ∧ ∃ n, n ∈ (s.ringOf z).notches ∧ n.slot = k ∧ n.fresh = false then
            (s.signal.notchMem.get z).get k
          else [])
      ∧ (∀ z, t.ringOf z =
          { s.ringOf z with notches := (s.ringOf z).notches.map fun n => { n with fresh := false } })
      ∧ (∀ z, (t.signal.buses.get z).isSome = true ↔ (t.zoneLive z).power = .active)
      ∧ t.signal.elapsed = 0 ∧ (∀ i, t.signal.peaks.get i = 0)
      ∧ t.signal.lines = s.signal.lines ∧ t.signal.outputs = s.signal.outputs ∧ t.signal.clips = s.signal.clips
      ∧ t.signal.clock =
          (if s.signal.clock.moving then { s.signal.clock with source := .house, moving := false }
          else s.signal.clock)
      ∧ t.store = s.store ∧ t.run = s.run ∧ t.pending = s.pending)
  ∧ (∀ (b : State) (table : Table (Option Route) 256) (counts : Table Nat 24),
    (∀ k, table.get k = (b.route? k).bind fun r => settleRoute (b.dueOf r) (b.evalTarget r) r) →
    (∀ z, counts.get z = b.demandCount table z) →
    settleStep b =
      (List.finRange 24).foldl (fun u z => u.takeCount z (b.engine.demand.get z) (counts.get z))
        { b with engine := { b.engine with table := table, demand := counts } }
    ∧ ∀ z, (settleStep b).zoneLive z = (b.takeCount z (b.engine.demand.get z) (counts.get z)).zoneLive z)
  ∧ (∀ (w : WorkingCopy) (r : Route),
    tapOf w r =
      { input := r.input, zone := r.zone, delay := r.delay, coeff := coefficient r.current
        bands := bandsOf w r.live.preset })
  ∧ ∀ ns : List Notch, (ns.map Notch.slot).Nodup →
    ((cutsOf ns).map Prod.fst).Pairwise (· < ·)
    ∧ ∀ k c, (k, c) ∈ cutsOf ns ↔
      ∃ n, n ∈ ns ∧ n.slot = k
        ∧ c =
          { bin := n.bin, depth := n.depth
            width :=
              match n.kind with
              | .fixed w => w
              | .dynamic => 1 }

/-- The clock: SET-CLOCK sets it by R179's table and answers the status after, a setting already held changing
nothing; the loss of the house clock takes a LOCKED part to FALLBACK with CLOCK raised, a waiting move cancelled, and
changes the presence monitor alone otherwise; its return starts the time present at 0; a second of presence locks a part
in FALLBACK, with CLOCK raised and the move waiting; the move, made when the 32 samples of the block under way have
come, puts it on the house clock. Nothing but the clock and that notice changes (R177, R178, R179). That the lock event
sets the time present to 1 s is the model's own choice (notes/assumptions/21.md), and so is that an event whose moment
has not come changes nothing (notes/assumptions/10.md). -/
def Obligations.ClockFollowsHouseClock : Prop :=
  ∀ (s : State) (c : Clock), c = s.signal.clock →
    (Ready s →
      (∀ n, 1 < n → exec (.setClock n) s = .next (answered s Kind.setClock .range []))
      ∧ ∀ (v : ClockSetting) (after : Clock),
        after =
          (if c.setting = v then c
          else if v = .internal then
            { c with setting := .internal, status := .internal, source := .internal, moving := false }
          else if c.present = true ∧ 48000 ≤ c.timePresent then
            { c with setting := .follow, status := .locked, moving := true }
          else { c with setting := .follow, status := .fallback }) →
        exec (.setClock (settingCode v)) s =
          .next
            (answered { s with signal := { s.signal with clock := after } } Kind.setClock .ok
              [BitVec.ofNat 8 (clockStatusCode after.status)]))
    ∧ (s.run = .running →
      (c.present = true →
        (c.status = .locked →
          exec .houseClockLost s =
            .next
              (({ s with
                signal :=
                  { s.signal with
                    clock :=
                      { c with
                        present := false, timePresent := 0, status := .fallback, source := .internal
                        moving := false } } } : State).raise .clock))
        ∧ (c.status ≠ .locked →
          exec .houseClockLost s =
            .next { s with signal := { s.signal with clock := { c with present := false, timePresent := 0 } } })
        ∧ (c.status = .fallback →
          exec .houseClockLock s =
            .next
              (({ s with
                signal :=
                  { s.signal with
                    clock := { c with timePresent := 48000, status := .locked, moving := true } } } : State).raise
                .clock))
        ∧ (c.status ≠ .fallback →
          exec .houseClockLock s =
            .next { s with signal := { s.signal with clock := { c with timePresent := 48000 } } }))
      ∧ (c.present = false →
        exec .houseClockReturned s =
          .next { s with signal := { s.signal with clock := { c with present := true, timePresent := 0 } } })
      ∧ (c.moving = true → 32 ≤ s.signal.elapsed →
        exec .houseClockMove s =
          .next { s with signal := { s.signal with clock := { c with source := .house, moving := false } } })
      ∧ (c.moving = false ∨ s.signal.elapsed < 32 → exec .houseClockMove s = .next s)
      ∧ (c.present = false → exec .houseClockLost s = .next s ∧ exec .houseClockLock s = .next s)
      ∧ (c.present = true → exec .houseClockReturned s = .next s))

/-! ## The control line (chapter 10) -/

/-- The framing phase, byte by byte: lost while the driver is enabled; hunting for MARK; a LENGTH of 1 to 250 kept and
any other starting a discard; later bytes kept until LENGTH + 1 follow LENGTH, when the frame is taken and the port
hunts; bytes of a discard dropped. Each byte of a frame or a discard restarts the gap timer, whose expiry drops the
partial frame or ends the discard; an answer that waits then begins. The end of an answer releases the driver and
begins the next (R181, R183, R184, R187). That the LENGTH byte restarts the gap timer, and that an expiry of the gap
timer while the port hunts, when none runs, changes nothing, are the model's own choices (notes/assumptions/19.md and
10.md). -/
def Obligations.BytesMakeFrames : Prop :=
  ∀ (s : State), s.run = .running →
    (∀ b, s.port.driver = true → exec (.byteReceived b) s = .next s)
    ∧ (∀ b, s.port.driver = false → s.port.phase = .hunting →
      exec (.byteReceived b) s =
        if b = 0x7E then
          .next { s with port := { s.port with phase := .collecting, partFrame := [], gap := some 0 } }
        else .next s)
    ∧ (∀ b, s.port.driver = false → s.port.phase = .discarding →
      exec (.byteReceived b) s = .next { s with port := { s.port with partFrame := [], gap := some 0 } })
    ∧ (∀ b, s.port.driver = false → s.port.phase = .collecting → s.port.partFrame = [] →
      exec (.byteReceived b) s =
        if 1 ≤ b.toNat ∧ b.toNat ≤ 250 then .next { s with port := { s.port with partFrame := [b], gap := some 0 } }
        else .next { s with port := { s.port with phase := .discarding, partFrame := [], gap := some 0 } })
    ∧ (∀ b len kept, s.port.driver = false → s.port.phase = .collecting → s.port.partFrame = len :: kept →
      (kept.length ≠ len.toNat →
        exec (.byteReceived b) s =
          .next { s with port := { s.port with partFrame := len :: (kept ++ [b]), gap := some 0 } })
      ∧ (kept.length = len.toNat →
        ∀ u, u =
          completeFrame (len :: (kept ++ [b]))
            { s with port := { s.port with phase := .hunting, partFrame := [], gap := none } } →
        exec (.byteReceived b) s = .next { u with port := u.port.beginAnswer }))
    ∧ (s.port.phase ≠ .hunting →
      exec .gapTimeout s =
        .next
          { s with
            port :=
              { s.port with
                phase := .hunting, partFrame := [], gap := none
                driver := s.port.driver || !s.port.answers.isEmpty } })
    ∧ (s.port.phase = .hunting → exec .gapTimeout s = .next s)
    ∧ ∀ a rest, s.port.driver = true → s.port.answers = a :: rest →
      exec .answerSent s =
        .next
          { s with
            port :=
              { s.port with
                answers := rest
                driver := decide (s.port.phase = .hunting) && !rest.isEmpty
                restart :=
                  if s.port.restart = .answering ∧ a.kind = 0x49 ∧ a.status = .ok then .due
                  else s.port.restart } }

/-- A complete frame is checked in R185's order: a sum that is not 0 is answered BAD-FRAME with the KIND as received,
then BUSY while a request is in progress, UNKNOWN for a KIND in no table, RANGE for a body that has not its form; a
frame that passes does exactly what its request does (R185, R186). That a request row is a whole frame arriving is the
model's own choice (notes/assumptions/8.md). -/
def Obligations.FramesCheckedInOrder : Prop :=
  ∀ (s : State) (kind : Byte) (body : List Byte), s.run = .running →
    (∀ len rest, byteSum (len :: kind :: rest) ≠ 0 →
      completeFrame (len :: kind :: rest) s = answered s kind .badFrame [])
    ∧ ∀ bytes, frameOf (kind :: body) = 0x7E :: bytes →
      (∀ p, s.port.inProgress = some p → completeFrame bytes s = answered s kind .busy [])
      ∧ (s.port.inProgress = none →
        (kind ∉ knownKinds →
          completeFrame bytes s = answered s kind .unknown []
          ∧ (s.port.phase = .hunting → s.port.driver = false →
            exec (.unknownKindFrame kind body) s = .next (answered s kind .unknown [])))
        ∧ (kind ∈ knownKinds → parseBody kind body = none → completeFrame bytes s = answered s kind .range [])
        ∧ ∀ i, parseBody kind body = some i → s.port.phase = .hunting → s.port.driver = false →
          exec i s = .next (completeFrame bytes s))

/-- Every request that can be sent is read back from its KIND and body as it was written, every field at every value
its layout admits (R193, R194). Where the manual leaves a place of a layout open, the layout is the model's own choice
(notes/assumptions/7.md). -/
def Obligations.RequestRoundTrip : Prop :=
  ∀ (i : Instr) (kind : Byte) (body : List Byte), i.wellFormed = true → requestBody i = some (kind, body) →
    parseBody kind body = some i

/-- NOTICES answers the whole notice set and the last NOTIFY cue number, and clears the set, releasing ATTN_L; the mask
and the number stay. SET-NOTICE-MASK takes the mask and works ATTN_L out afresh, or is refused RANGE for an unused bit.
Neither changes anything else. A NOTICES sent during a scan is answered BUSY and clears nothing (R189, R190, R191). -/
def Obligations.NoticesReadAndMasked : Prop :=
  (∀ (s : State) (p : InProgress), s.run = .running → s.port.phase = .hunting → s.port.driver = false →
    s.port.inProgress = some p → exec .notices s = .next (answered s Kind.notices .busy []))
  ∧ ∀ s, Ready s →
    exec .notices s =
      .next
        (answered { s with port := { s.port with notices := 0, attnLow := false } } Kind.notices .ok
          [BitVec.ofNat 8 (s.port.notices.toNat / 256), BitVec.ofNat 8 s.port.notices.toNat,
           if s.port.lastNotify = none then 0 else 1,
           BitVec.ofNat 8 ((s.port.lastNotify.map Fin.val).getD 0)])
    ∧ (∀ w : Word16, 8192 ≤ w.toNat → exec (.setNoticeMask w) s = .next (answered s Kind.setNoticeMask .range []))
    ∧ ∀ w : Word16, w.toNat < 8192 →
      exec (.setNoticeMask w) s =
        .next
          (answered
            { s with
              port :=
                { s.port with
                  mask := w.setWidth 13
                  attnLow := decide (s.port.notices &&& w.setWidth 13 ≠ 0) } }
            Kind.setNoticeMask .ok [BitVec.ofNat 8 (w.toNat / 256), BitVec.ofNat 8 w.toNat])

/-! ## Installation store and start-up (chapter 11) -/

/-- STORE on an IDLE store snapshots the working copy, answers STARTED and begins to write; on a WRITING one it is
answered BUSY and the write goes on. A write that ends DONE leaves the mark, the snapshot and their sum in the flash and
raises STORE-DONE; one that fails or times out raises STORE-FAILED; either way the snapshot is gone, the store is IDLE
and the working copy untouched (R196, R197). How the flash is held, and that its mark is erased when the write begins,
are the model's own choices (notes/assumptions/6.md and 17.md). -/
def Obligations.StoreWritesItsSnapshot : Prop :=
  ∀ s,
    (Ready s →
      (s.store.writing = none →
        exec .store s =
          .next
            (answered
              { s with
                store :=
                  { s.store with
                    writing := some s.store.working, flash := { s.store.flash with mark := 0xFFFF } } }
              Kind.store .started []))
      ∧ (s.store.writing ≠ none → exec .store s = .next (answered s Kind.store .busy [])))
    ∧ (s.run = .running → ∀ w, s.store.writing = some w →
      exec .storeWriteDone s =
        .next
          (({ s with
            store :=
              { s.store with
                writing := none
                flash :=
                  { answers := true, mark := Config.imageMark, snapshot := snapshotOf w
                    sum := imageSum Config.imageMark (snapshotOf w) } } } :
            State).raise .storeDone)
      ∧ ∀ left,
        exec (.storeWriteFailed left) s =
          .next (({ s with store := { s.store with writing := none, flash := left } } : State).raise .storeFailed)
        ∧ exec (.storeStageTimeout left) s =
          .next (({ s with store := { s.store with writing := none, flash := left } } : State).raise .storeFailed))

/-- What is stored comes back: an installation whose laws hold, stored and written to the end, is the working copy
again after a reset and a start-up, every field of it, and DEFAULTS is not raised; cut off by the reset while it is
being written, it leaves the factory defaults and DEFAULTS (R196, R197, R198, R200). How the flash is held, and that its
mark is erased when the write begins, are the model's own choices (notes/assumptions/6.md and 17.md). -/
def Obligations.StoredInstallationReturns : Prop :=
  ∀ s, Ready s → s.store.writing = none →
    InstallationInRange s → HomesListened s → NotchesTrue s → s.cue? 0 ≠ none →
    (∃ a b c d,
      exec .store s = .next a ∧ exec .storeWriteDone a = .next b ∧ exec .rstLLow b = .next c
      ∧ exec .startUpSequence c = .next d
      ∧ d.store.working = s.store.working ∧ d.port.notices = 0x1000)
    ∧ ∃ a c d,
      exec .store s = .next a ∧ exec .rstLLow a = .next c ∧ exec .startUpSequence c = .next d
      ∧ d.store.working = factoryDefaults ∧ d.port.notices = 0x1800

/-- RST_L low in any state holds the part: every zone in STANDBY without timer or enable, the line hunting with
nothing waiting and the driver released, ATTN_L released, no scan, no debounce, no whole frame, every zone's output 0, a
write cut off; every other field is as it was. Loss of power keeps the flash and the levels of the outside lines, and
drops the working copy, the routes, the cue queue and result, the scan, the demand, the gates and open lists, the ring
fields, the frames, the signal path, the clock, what the port held and everything else. What the fields hold meanwhile,
the factory values of an empty start after a loss of power, is the model's own choice (notes/assumptions/16.md) (R103,
R182, R189, R197, R200). -/
def Obligations.ResetAndPowerStopThePart : Prop :=
  ∀ s,
    (∃ t, exec .rstLLow s = .next t
      ∧ t.run = .held
      ∧ (∀ z, (t.zoneLive z).power = .standby ∧ (t.zoneLive z).ampEnabled = false ∧ (t.zoneLive z).timer = .none
        ∧ t.signal.outputs.get z = 0)
      ∧ t.port.phase = .hunting ∧ t.port.partFrame = [] ∧ t.port.gap = none ∧ t.port.inProgress = none
      ∧ t.port.answers = [] ∧ t.port.driver = false ∧ t.port.attnLow = false ∧ t.port.restart = .none
      ∧ t.engine.scan = none ∧ t.store.writing = none ∧ t.store.flash = s.store.flash ∧ t.pending = s.pending
      ∧ (∀ z, t.zoneLive z = { s.zoneLive z with power := .standby, ampEnabled := false, timer := .none })
      ∧ (∀ z, t.power.amps.get z = { s.power.amps.get z with count := none })
      ∧ (∀ k, t.power.keys.get k = { s.power.keys.get k with count := none })
      ∧ (∀ z, t.ring.frames.get z = { s.ring.frames.get z with active := false })
      ∧ (∀ z, t.signal.buses.get z = none)
      ∧ t =
          { s with
            run := .held
            engine := { s.engine with scan := none }
            power := t.power
            ring := { s.ring with frames := t.ring.frames }
            signal := { s.signal with buses := t.signal.buses, outputs := t.signal.outputs }
            port := { Port.atStart with notices := s.port.notices, mask := s.port.mask, lastNotify := s.port.lastNotify }
            store := { s.store with writing := none } })
    ∧ ∃ t, exec .powerLoss s = .next t
      ∧ t.run = .off
      ∧ t.store = { working := factoryDefaults, flash := s.store.flash, writing := none }
      ∧ (∀ k, t.route? k = none) ∧ (∀ z, t.engine.demand.get z = 0)
      ∧ t.engine.queue = [] ∧ t.engine.result = none ∧ t.engine.scan = none
      ∧ (∀ i, t.gates.inputs.get i = { gate := .closed, counter := 0, peak := -480 }) ∧ (∀ p, t.listOf p = [])
      ∧ (∀ z, t.zoneLive z =
          { power := .standby, ampEnabled := false, controllerLive := false, keyLive := false, live := false
            demandPresent := false, timer := .none })
      ∧ (∀ z, t.power.amps.get z =
          { raw := (s.power.amps.get z).raw, settled := (s.power.amps.get z).raw, count := none })
      ∧ (∀ k, t.power.keys.get k =
          { raw := (s.power.keys.get k).raw, settled := (s.power.keys.get k).raw, count := none })
      ∧ (∀ z, t.ringOf z =
          { notches := [], candidate := none, count := 0, margin := 0, runaway := false, sinceConfirm := 0 })
      ∧ (∀ z, t.ring.frames.get z = { active := false, samples := [], ended := [], due := none })
      ∧ t.ring.blocks = none
      ∧ (∀ i, t.signal.lines.get i = [] ∧ t.signal.peaks.get i = 0) ∧ t.signal.elapsed = 0
      ∧ (∀ k, t.signal.taps.get k = none ∧ t.signal.eqMemory.get k = [])
      ∧ (∀ z, t.signal.buses.get z = none ∧ t.signal.outputs.get z = 0 ∧ t.signal.clips.get z = false
        ∧ ∀ k, (t.signal.notchMem.get z).get k = [])
      ∧ t.signal.clock =
          { setting := .internal, status := .internal, source := .internal, moving := false, present := false
            timePresent := 0 }
      ∧ t.port =
          { phase := .hunting, partFrame := [], gap := none, inProgress := none, answers := [], driver := false
            notices := 0, mask := BitVec.allOnes 13, lastNotify := none, attnLow := false, restart := .none }
      ∧ t.pending = s.pending

/-- The start-up sequence of a part that does not run: the image is loaded and clamped where it passes its checks, and
the factory defaults where it does not, with DEFAULTS then raised; the clock, lines and CLIP are at power-on; each zone
is STANDBY, or ABSENT where its status line reads fault, live by its installation setting or its key; the tables,
lists, queues and ring state are empty but for cue 0 in the queue and the FIXED notches of the working copy, in
ascending slot order; the first analysis frame begins with the first block; RESTARTED is raised with every notice
enabled. The checks are R198's: the flash answers, the mark is the image mark, which an erased flash does not hold, the
total of the bytes of mark and snapshot modulo 65,536 is the sum, and no stored value is one its owner would refuse.
State.reset is that of an erased flash with healthy lines and keys off (R141, R167, R198, R199, R200). State.reset, the
form of the image, the marks taken afresh by the notches, that a running part has had its start-up, and that the first
block begins with the start-up's end, are the model's own choices (notes/assumptions/1.md, 6.md, 12.md, 10.md and
20.md). -/
def Obligations.StartUpSetsThePart : Prop :=
  (∀ s, s.run ≠ .running →
    ∃ t, exec .startUpSequence s = .next t
      ∧ t.run = .running
      ∧ (imageLoads s.store.flash = true →
        t.store.working = loadSnapshot s.store.flash.snapshot ∧ t.port.notices = 0x1000)
      ∧ (imageLoads s.store.flash = false → t.store.working = factoryDefaults ∧ t.port.notices = 0x1800)
      ∧ t.store.flash = s.store.flash ∧ t.store.writing = none
      ∧ t.signal = SignalEngine.atPowerOn
      ∧ (∀ z, ∃ keyLive, t.zoneLive z =
          { power := if (s.power.amps.get z).raw then .standby else .absent
            ampEnabled := false, controllerLive := false, keyLive := keyLive
            live := (t.zoneSettings z).installLive || keyLive, demandPresent := false, timer := .none }
          ∧ (keyLive = true ↔ ∃ k, (t.zoneSettings z).key = some k ∧ (s.power.keys.get k).raw = true))
      ∧ (∀ z, t.power.amps.get z =
          { raw := (s.power.amps.get z).raw, settled := (s.power.amps.get z).raw, count := none })
      ∧ (∀ k, t.power.keys.get k =
          { raw := (s.power.keys.get k).raw, settled := (s.power.keys.get k).raw, count := none })
      ∧ (∀ k, t.route? k = none) ∧ (∀ z, t.engine.demand.get z = 0)
      ∧ t.engine.queue = [0] ∧ t.engine.result = none ∧ t.engine.scan = none
      ∧ (∀ i, t.gates.inputs.get i = { gate := .closed, counter := 0, peak := -480 }) ∧ (∀ p, t.listOf p = [])
      ∧ (∀ z, (t.ringOf z).margin = 0 ∧ (t.ringOf z).runaway = false ∧ (t.ringOf z).candidate = none
        ∧ (t.ringOf z).count = 0 ∧ (t.ringOf z).sinceConfirm = 0
        ∧ ∀ n, n ∈ (t.ringOf z).notches ↔
            ∃ fixed, (t.store.working.notches.get z).get n.slot = some fixed
              ∧ n = { slot := n.slot, kind := .fixed fixed.width, bin := fixed.bin, depth := fixed.depth
                      sinceHit := 0, fresh := true })
      ∧ (∀ z, ((t.ringOf z).notches.map Notch.slot).Pairwise (· < ·))
      ∧ t.ring.blocks = some 0
      ∧ (∀ z, t.ring.frames.get z = { active := false, samples := [], ended := [], due := none })
      ∧ t.port =
          { Port.atStart with notices := t.port.notices, attnLow := true }
      ∧ t.port.mask = BitVec.allOnes 13
      ∧ t.pending = s.pending)
  ∧ (∀ s, s.run ≠ .running → s.store.flash = erasedFlash → s.pending = [] →
    (∀ z, (s.power.amps.get z).raw = true) → (∀ k, (s.power.keys.get k).raw = false) →
    exec .startUpSequence s = .next State.reset)
  ∧ (∀ s, s.run = .running → exec .startUpSequence s = .next s)
  ∧ (∀ f : FlashImage,
    imageLoads f = true ↔
      f.answers = true ∧ f.mark = Config.imageMark
      ∧ f.sum.toNat =
          (f.mark.toNat / 256 + f.mark.toNat % 256
            + ((Config.snapshotBytes f.snapshot).map BitVec.toNat).sum) % 65536
      ∧ snapshotAcceptable f.snapshot = true)
  ∧ Config.imageMark ≠ 0xFFFF
  ∧ (∀ n : Snapshot,
    snapshotAcceptable n = true ↔
      (∀ i, (n.inputs.get i).cls ≤ 3 ∧ (n.inputs.get i).mode ≤ 2 ∧ ¬outside 4 (n.inputs.get i).precinct
        ∧ ¬outside 16 (n.inputs.get i).station)
      ∧ (∀ p, (n.precincts.get p).lastOn ≤ 1)
      ∧ (∀ z, ¬outside 4 (n.zones.get z).home ∧ (n.zones.get z).listen.toNat ≤ 15
        ∧ (n.zones.get z).listen.getLsbD ((n.zones.get z).home - 1) = true
        ∧ (n.zones.get z).installLive ≤ 1 ∧ (n.zones.get z).cueSafe ≤ 1 ∧ (n.zones.get z).ringWatch ≤ 1
        ∧ ∀ k, (n.zones.get z).key = some k → ¬outside 16 k)
      ∧ (∀ p, (n.presets.get p).length ≤ 4
        ∧ ∀ b, b ∈ n.presets.get p → b.kind ≤ 3 ∧ (b.kind = 3 → b.gain = none))
      ∧ (∀ c v, n.cues.get c = some v →
        v.label.length ≤ 12 ∧ v.label.all isCharacter = true ∧ v.entries.length ≤ 16
        ∧ ∀ e, e ∈ v.entries → cueEntry? e ≠ none)
      ∧ n.cues.get 0 ≠ none
      ∧ ∀ z, (∀ m, m ∈ n.notches.get z → m.slot ≤ 7 ∧ 4 ≤ m.bin ∧ m.bin ≤ 511)
        ∧ (n.notches.get z).Pairwise fun a b =>
          a.slot ≠ b.slot ∧ (a.bin + 1 < b.bin ∨ b.bin + 1 < a.bin))
  ∧ ∀ w : WorkingCopy, snapshotAcceptable (snapshotOf w) = true → loadSnapshot (snapshotOf w) = clampWorking w

/-- RESTART is answered OK, and only when that answer has been sent in full is the sequence due. The sequence keeps the
working copy, the flash, a write in progress, the clock and the block under way with its taps and buses. It samples the
status and key lines afresh, empties what a start-up empties (delay lines, filter memories, outputs and CLIP, routes,
queue, cue result and scan, open lists and gates, with block peak −480), sets the ring fields with the FIXED notches of
the working copy in ascending slot order and nothing else, abandons the analysis frame, queues cue 0 and raises
RESTARTED and no other notice (R26, R124, R167, R180, R186, R201). That the block under way runs on over emptied delay
lines is the model's reading (notes/assumptions/15.md); the wait for the first block after it, the mark `fresh` of a
notch, that a scan begun since the answer is abandoned, that a sequence which is not due changes nothing, and that a
second RESTART leaves one due, are its own choices (notes/assumptions/20.md, 12.md, 28.md, 10.md and 27.md). -/
def Obligations.RestartKeepsTheInstallation : Prop :=
  (∀ s, Ready s → s.port.restart ≠ .due →
    exec .restart s = .next (answered { s with port := { s.port with restart := .answering } } Kind.restart .ok []))
  ∧ (∀ s, Ready s → s.port.restart = .due → exec .restart s = .next (answered s Kind.restart .ok []))
  ∧ (∀ s, s.run = .running → s.port.restart ≠ .due → exec .restartSequence s = .next s)
  ∧ ∀ s, s.run = .running → s.port.restart = .due →
    ∃ t, exec .restartSequence s = .next t
      ∧ t.run = .running ∧ t.store = s.store ∧ t.pending = s.pending
      ∧ t.signal.clock = s.signal.clock ∧ t.signal.elapsed = s.signal.elapsed
      ∧ t.signal.taps = s.signal.taps ∧ t.signal.buses = s.signal.buses ∧ t.signal.peaks = s.signal.peaks
      ∧ (∀ k, t.signal.eqMemory.get k = []) ∧ (∀ z k, (t.signal.notchMem.get z).get k = [])
      ∧ (∀ i d, lineAt (t.signal.lines.get i) d = 0)
      ∧ (∀ z, t.signal.clips.get z = false ∧ t.signal.outputs.get z = 0)
      ∧ (∀ z, t.zoneLive z = startZone s.power.keys (s.zoneSettings z) (s.power.amps.get z))
      ∧ (∀ z, t.power.amps.get z =
          { raw := (s.power.amps.get z).raw, settled := (s.power.amps.get z).raw, count := none })
      ∧ (∀ k, t.power.keys.get k =
          { raw := (s.power.keys.get k).raw, settled := (s.power.keys.get k).raw, count := none })
      ∧ (∀ k, t.route? k = none) ∧ (∀ z, t.engine.demand.get z = 0)
      ∧ t.engine.queue = [0] ∧ t.engine.result = none ∧ t.engine.scan = none
      ∧ (∀ p, t.listOf p = []) ∧ (∀ i, t.gates.inputs.get i = { gate := .closed, counter := 0, peak := -480 })
      ∧ (∀ z, (t.ringOf z).margin = 0 ∧ (t.ringOf z).runaway = false ∧ (t.ringOf z).candidate = none
        ∧ (t.ringOf z).count = 0 ∧ (t.ringOf z).sinceConfirm = 0
        ∧ (∀ n, n ∈ (t.ringOf z).notches ↔
            ∃ fixed, (s.store.working.notches.get z).get n.slot = some fixed
              ∧ n = { slot := n.slot, kind := .fixed fixed.width, bin := fixed.bin, depth := fixed.depth
                      sinceHit := 0, fresh := true })
        ∧ ((t.ringOf z).notches.map Notch.slot).Pairwise (· < ·))
      ∧ t.ring.blocks = none
      ∧ (∀ z, t.ring.frames.get z = { active := false, samples := [], ended := [], due := none })
      ∧ t.port = { Port.atStart with notices := 0x1000, attnLow := true }

/-! ## The laws that every step keeps -/

/-- The laws of the route table, each kept by every step from any state that has it: no two records share a key (R2);
an armed route can flip (R57); a route that is not RETIRING joins an input that its zone listens to (R18); an ABSENT
zone holds no routes, and into a zone in FAULT or runaway every route is RETIRING or HALTED (R21, R142). -/
def Obligations.RouteLawsKept : Prop :=
  ∀ s t, step s = .next t →
    (DistinctKeys s → DistinctKeys t)
    ∧ (ArmedRoutesCanFlip s → ArmedRoutesCanFlip t)
    ∧ (RoutesListened s → RoutesListened t)
    ∧ (BarredZonesSilent s → BarredZonesSilent t)

/-- Gains and delays stay in their ranges, kept by every step: every level, target and current in −480..+48 (R30,
R38), every delay within the line (R49). -/
def Obligations.RangesKept : Prop :=
  ∀ s t, step s = .next t → (GainsInRange s → GainsInRange t) ∧ (DelaysInLine s → DelaysInLine t)

/-- The open lists and the cue queue, kept by every step: a list holds exactly the AUTO inputs of its precinct that
are OPEN or HOLD, none twice, within MAXNOM (R112); the queue holds at most four numbers, each of a defined cue, and
cue 0 is always defined (R76). -/
def Obligations.ListsAndQueueKept : Prop :=
  ∀ s t, step s = .next t →
    (OpenListsTrue s → OpenListsTrue t) ∧ (QueueOfDefinedCues s → QueueOfDefinedCues t)

/-- The zones' rules, kept by every step: an amplifier is enabled exactly while its zone is WAKING or ACTIVE (R131),
each timer runs exactly when its state calls for it (R133, R135), live, key-live and demand-present follow what they
are worked out from (R127, R128, R132), and a listen set holds its home precinct (R126). -/
def Obligations.ZoneLawsKept : Prop :=
  ∀ s t, step s = .next t → (ZonesTrue s → ZonesTrue t) ∧ (HomesListened s → HomesListened t)

/-- The notches and margins, kept by every step: notches in slots of their own and with bins apart, DYNAMIC depths in
12..72, the working copy holding exactly the FIXED ones (R150); a margin in 0..48, and 48 in runaway (R157). -/
def Obligations.RingLawsKept : Prop :=
  ∀ s t, step s = .next t → (NotchesTrue s → NotchesTrue t) ∧ (MarginsTrue s → MarginsTrue t)

/-- The signal path, the clock and the control line, kept by every step: each delay line in its one form and each
output in 24 bits (R45, R169); the clock's fields agreeing (R177, R178); the framing phase, gap timer, partial frame
and driver agreeing (R181 to R184); a request in progress being the scan (R93, R186); at most two answers waiting (R187);
ATTN_L low exactly while an enabled notice is set (R189). -/
def Obligations.SignalAndLineLawsKept : Prop :=
  ∀ s t, step s = .next t →
    (SamplesTrue s → SamplesTrue t)
    ∧ (ClockTrue s → ClockTrue t)
    ∧ (FramingTrue s → FramingTrue t)
    ∧ (ScanTrue s → ScanTrue t)
    ∧ (FramingTrue s → ScanTrue s → AnswersFew s → AnswersFew t)
    ∧ (AttentionTrue s → AttentionTrue t)

/-- The installation in range, kept by every step: every quantity of the working copy is one its owning request would
store unclamped, every cue and band list within its counts (R104, R112, R125, R148, R161, R171, R198). -/
def Obligations.InstallationKeptInRange : Prop :=
  ∀ s t, step s = .next t → InstallationInRange s → InstallationInRange t

/-- All those laws hold of the machine right after reset (R200). What State.reset holds where the manual gives nothing is
the model's own choice (notes/assumptions/1.md). -/
def Obligations.ResetHasEveryLaw : Prop :=
  DistinctKeys State.reset ∧ ArmedRoutesCanFlip State.reset ∧ RoutesListened State.reset
  ∧ BarredZonesSilent State.reset ∧ GainsInRange State.reset ∧ DelaysInLine State.reset
  ∧ OpenListsTrue State.reset ∧ QueueOfDefinedCues State.reset ∧ ZonesTrue State.reset ∧ HomesListened State.reset
  ∧ NotchesTrue State.reset ∧ MarginsTrue State.reset ∧ SamplesTrue State.reset ∧ ClockTrue State.reset
  ∧ FramingTrue State.reset ∧ ScanTrue State.reset ∧ AnswersFew State.reset ∧ AttentionTrue State.reset
  ∧ InstallationInRange State.reset
end

