-- ==== Sys2Proof/Laws/Filters.lean ====
section
/-! SUPPORT. What the opaque constants of Config leave known: the filters and the transform at work in the part, and
the image mark. -/

namespace Sys2Proof.Machine

/-- A band at work is the filter of the part: its rule of silence and its rule of gain 0 say what the filter does
anyway (R171, R172). -/
theorem runBand_eq (b : EqBand) : runBand b = Config.eqFilter b := by
  funext m x
  unfold runBand
  split
  · next h =>
    obtain ⟨rfl, rfl⟩ := h
    exact (Config.filterBank.eq_silent b).symm
  · split
    · next h => exact Prod.ext rfl (Config.filterBank.eq_flat b m x h.1 h.2).symm
    · rfl

/-- A notch at work is the filter of the part (R175). -/
theorem runNotch_eq (c : NotchCut) : runNotch c = Config.notchFilter c := by
  funext m x
  unfold runNotch
  split
  · next h =>
    obtain ⟨rfl, rfl⟩ := h
    exact (Config.filterBank.notch_silent c).symm
  · rfl

/-- The image mark is not the mark of an erased flash (R198). -/
theorem imageMark_ne : Config.imageMark ≠ erasedMark := by
  intro h
  have e : Config.markNumber.1 % 65536 = 65535 := by
    simpa [Config.imageMark, erasedMark] using congrArg BitVec.toNat h
  have := Config.markNumber.2
  omega

/-- An image without the mark is not loaded (R198). -/
theorem imageLoads_unmarked {f : FlashImage} (h : f.mark ≠ Config.imageMark) : imageLoads f = false := by
  simp [imageLoads, h]

theorem imageLoads_erased : imageLoads erasedFlash = false :=
  imageLoads_unmarked imageMark_ne.symm

/-- What a write that ends DONE leaves is loaded exactly when its snapshot passes the third check (R198). -/
theorem imageLoads_written (w : WorkingCopy) : imageLoads (imageOf w) = snapshotAcceptable (snapshotOf w) := by
  simp [imageLoads, imageOf]

/-- A part whose flash is erased starts up on the factory defaults (R198). -/
theorem loadedCopy_erased : loadedCopy erasedFlash = factoryDefaults := by
  simp [loadedCopy, imageLoads_erased]

/-! ## Frames (R152, R153) -/

theorem State.endZoneFrame_none {s : State} {z : ZoneIx} (h : (s.ring.frames.get z).ended = []) :
    s.endZoneFrame z = s := by
  simp [State.endZoneFrame, h]

/-- The oldest frame that was cut becomes due, once the result still due has been taken (R152). -/
theorem State.endZoneFrame_some {s : State} {z : ZoneIx} {f : FrameCapture} {rest : List FrameCapture}
    (h : (s.ring.frames.get z).ended = f :: rest) :
    s.endZoneFrame z =
      (s.frameResult z).setFrame z { (s.frameResult z).ring.frames.get z with ended := rest, due := some f } := by
  simp [State.endZoneFrame, h]

theorem frameLevels_silent {f : FrameCapture} (h : ∀ x ∈ f.samples, x = 0) :
    frameLevels f = List.replicate 508 (-480) := by
  have : f.samples.all (· = 0) = true := by simpa [List.all_eq_true] using h
  simp [frameLevels, this]

/-! ## Bin levels (R153) -/

/-- A level is reached exactly where 80·log10 of the ratio is at most half below it. -/
theorem levelAtLeast_iff {full m : Nat} (hf : 0 < full) (hm : 0 < m) (q : Int) :
    levelAtLeast full m q = true ↔ (q : ℝ) ≤ 80 * Real.logb 10 (m / full) + 1 / 2 := by
  have f0 : (0 : ℝ) < full := by exact_mod_cast hf
  have m0 : (0 : ℝ) < m := by exact_mod_cast hm
  have split : ((2 * q - 1).toNat : ℝ) - ((1 - 2 * q).toNat : ℝ) = 2 * q - 1 := by
    have : (((2 * q - 1).toNat : Int) - ((1 - 2 * q).toNat : Int)) = 2 * q - 1 := by omega
    exact_mod_cast this
  have e : levelAtLeast full m q = true ↔
      (full : ℝ) ^ 160 * 10 ^ (2 * q - 1).toNat ≤ (m : ℝ) ^ 160 * 10 ^ (1 - 2 * q).toNat := by
    rw [levelAtLeast, decide_eq_true_eq]
    exact_mod_cast Iff.rfl
  have t : ∀ n : Nat, Real.logb 10 ((10 : ℝ) ^ n) = n := fun n => by
    rw [Real.logb_pow, Real.logb_self_eq_one (by norm_num), mul_one]
  rw [e, ← Real.logb_le_logb (b := 10) (by norm_num) (by positivity) (by positivity),
    Real.logb_mul (by positivity) (by positivity), Real.logb_mul (by positivity) (by positivity), t, t, Real.logb_pow,
    Real.logb_pow, Real.logb_div m0.ne' f0.ne']
  push_cast
  constructor <;> intro h <;> linarith

/-- The search gives the highest level reached, of those tried, or the one below them all. -/
theorem searchLevel_eq {full m : Nat} {q0 : Int} (h : ∀ q, levelAtLeast full m q = true ↔ q ≤ q0) (k : Nat) (q : Int) :
    searchLevel full m k q = max (q - k) (min q q0) := by
  induction k generalizing q with
  | zero => simp [searchLevel]
  | succ k ih =>
    rw [searchLevel, ih]
    split
    · next hq =>
      have := (h q).mp hq
      push_cast; omega
    · next hq =>
      have : ¬ q ≤ q0 := fun hle => hq ((h q).mpr hle)
      push_cast; omega

/-- The level that is worked out in whole numbers is that of the rule (R153). -/
theorem binLevel_isLevel {full : Nat} (hf : 0 < full) (m : Nat) : IsLevel (m / full) (binLevel full m) := by
  have f0 : (0 : ℝ) < full := by exact_mod_cast hf
  constructor
  · intro h
    have : m = 0 := by
      rcases div_eq_zero_iff.mp h with h | h
      · exact_mod_cast h
      · exact absurd h f0.ne'
    simp [binLevel, this]
  · intro h
    have hm : 0 < m := by
      rcases Nat.eq_zero_or_pos m with rfl | h'
      · simp at h
      · exact h'
    rw [binLevel, if_neg hm.ne', searchLevel_eq (q0 := round (80 * Real.logb 10 (m / full))) fun q => by
      rw [levelAtLeast_iff hf hm, round_eq, Int.le_floor]]
    norm_num

/-- A full-scale sine has a magnitude (R153). -/
theorem transform_full_pos : 0 < Config.transform.full := by
  rcases Nat.eq_zero_or_pos Config.transform.full with h | h
  · have := Config.transform.sine 4 le_rfl (by norm_num) 8388608 0 _ (by norm_num) fun _ => rfl
    rw [h, Nat.cast_zero, div_zero] at this
    norm_num at this
  · exact h

/-- The level of a bin is that of the magnitude the transform gives, for silence too (R153). -/
theorem frameLevels_isLevel {f : FrameCapture} (hf : f.samples.length = 2048) {b : Nat} (h1 : 4 ≤ b) (h2 : b ≤ 511) :
    IsLevel (Config.transform.magnitude f.samples.reverse b / Config.transform.full)
      ((frameLevels f).getD (b - 4) (-480)) := by
  have hb : b - 4 < 508 := by omega
  unfold frameLevels
  split
  · next h =>
    have e : f.samples.reverse = List.replicate 2048 0 := by
      rw [← hf]
      refine List.eq_replicate_iff.mpr ⟨List.length_reverse, fun x hx => ?_⟩
      simpa using List.all_eq_true.mp h x (List.mem_reverse.mp hx)
    rw [e, Config.transform.silent, List.getD_replicate _ hb]
    exact ⟨fun _ => rfl, fun h => by simp at h⟩
  · rw [List.getD_eq_getElem _ _ (by simpa using hb)]
    have : 4 + (b - 4) = b := by omega
    simpa [this] using binLevel_isLevel transform_full_pos (Config.transform.magnitude f.samples.reverse b)

end Sys2Proof.Machine
end

