-- ==== Sys2Proof/Laws/Table.lean ====
section
/-! SUPPORT. Tables: what a place holds after each operation. -/

namespace Sys2Proof.Table

variable {α β γ : Type} {n : Nat}

theorem get_eq_getElem (t : Table α n) (i : Fin n) : t.get i = t.cells[i.1]'(t.size.symm ▸ i.2) :=
  rfl

/-- Two tables that hold the same at every place are one. -/
theorem ext_get {t u : Table α n} (h : ∀ i, t.get i = u.get i) : t = u := by
  cases t with
  | mk a ha =>
    cases u with
    | mk b hb =>
      have : a = b := List.ext_getElem (ha.trans hb.symm) fun i h₁ _ => h ⟨i, ha ▸ h₁⟩
      subst this
      rfl

@[simp] theorem get_fill (a : α) (i : Fin n) : (fill n a).get i = a := by
  simp [get_eq_getElem, fill]

@[simp] theorem get_set_self (t : Table α n) (i : Fin n) (a : α) : (t.set i a).get i = a := by
  simp [get_eq_getElem, set]

theorem get_set (t : Table α n) (i j : Fin n) (a : α) : (t.set i a).get j = if i = j then a else t.get j := by
  simp only [get_eq_getElem, set, List.getElem_set]
  split <;> rename_i h
  · simp [Fin.ext h]
  · have : i ≠ j := fun e => h (congrArg Fin.val e)
    simp [this]

@[simp] theorem get_set_ne (t : Table α n) {i j : Fin n} (a : α) (h : i ≠ j) : (t.set i a).get j = t.get j := by
  simp [get_set, h]

@[simp] theorem get_modify_self (t : Table α n) (i : Fin n) (f : α → α) : (t.modify i f).get i = f (t.get i) := by
  simp [modify]

@[simp] theorem get_modify_ne (t : Table α n) {i j : Fin n} (f : α → α) (h : i ≠ j) :
    (t.modify i f).get j = t.get j := by
  simp [modify, h]

@[simp] theorem get_map (f : α → β) (t : Table α n) (i : Fin n) : (t.map f).get i = f (t.get i) := by
  simp [get_eq_getElem, map]

@[simp] theorem get_zipWith (f : α → β → γ) (t : Table α n) (u : Table β n) (i : Fin n) :
    (zipWith f t u).get i = f (t.get i) (u.get i) := by
  simp [get_eq_getElem, zipWith]

@[simp] theorem get_ofFn (f : Fin n → α) (i : Fin n) : (ofFn f).get i = f i := by
  simp [get_eq_getElem, ofFn]

theorem mem_cells {t : Table α n} {a : α} : a ∈ t.cells ↔ ∃ i, t.get i = a := by
  constructor
  · intro h
    obtain ⟨i, hi, e⟩ := List.getElem_of_mem h
    exact ⟨⟨i, t.size ▸ hi⟩, e⟩
  · rintro ⟨i, rfl⟩
    exact List.getElem_mem _

theorem any_eq_true {p : α → Bool} {t : Table α n} : t.any p = true ↔ ∃ i, p (t.get i) = true := by
  simp only [any, List.any_eq_true, mem_cells]
  constructor
  · rintro ⟨_, ⟨i, rfl⟩, h⟩
    exact ⟨i, h⟩
  · rintro ⟨i, h⟩
    exact ⟨_, ⟨i, rfl⟩, h⟩

theorem any_eq_false {p : α → Bool} {t : Table α n} : t.any p = false ↔ ∀ i, p (t.get i) = false := by
  rw [Bool.eq_false_iff, Ne, any_eq_true]
  simp

/-- What `first?` finds holds the property, and no lower place does. -/
theorem first?_eq_some {p : α → Bool} {t : Table α n} {i : Fin n} :
    t.first? p = some i ↔ p (t.get i) = true ∧ ∀ j, j < i → p (t.get j) = false := by
  simp only [first?, List.find?_eq_some_iff_getElem, List.length_finRange, List.getElem_finRange]
  constructor
  · rintro ⟨hp, k, hk, e, hl⟩
    subst e
    refine ⟨hp, fun j hj => ?_⟩
    simpa using hl j.1 hj
  · rintro ⟨hp, hl⟩
    refine ⟨hp, i.1, i.2, rfl, fun j hj => ?_⟩
    simpa using hl ⟨j, by omega⟩ hj

theorem first?_eq_none {p : α → Bool} {t : Table α n} : t.first? p = none ↔ ∀ i, p (t.get i) = false := by
  simp [first?, List.find?_eq_none]

end Sys2Proof.Table
end

