-- ==== Sys2Proof/Laws/State.lean ====
section
/-! SUPPORT. What each update of the state leaves: one lemma per field per update, and what the accessors read after
it. -/

namespace Sys2Proof.Machine

/-! ### `State.setSlot` -/

@[simp] theorem State.setSlot_run (s : State) (k : SlotIx) (c : Option Route) : (s.setSlot k c).run = s.run := rfl
@[simp] theorem State.setSlot_gates (s : State) (k : SlotIx) (c : Option Route) : (s.setSlot k c).gates = s.gates := rfl
@[simp] theorem State.setSlot_power (s : State) (k : SlotIx) (c : Option Route) : (s.setSlot k c).power = s.power := rfl
@[simp] theorem State.setSlot_ring (s : State) (k : SlotIx) (c : Option Route) : (s.setSlot k c).ring = s.ring := rfl
@[simp] theorem State.setSlot_signal (s : State) (k : SlotIx) (c : Option Route) : (s.setSlot k c).signal = s.signal := rfl
@[simp] theorem State.setSlot_port (s : State) (k : SlotIx) (c : Option Route) : (s.setSlot k c).port = s.port := rfl
@[simp] theorem State.setSlot_store (s : State) (k : SlotIx) (c : Option Route) : (s.setSlot k c).store = s.store := rfl
@[simp] theorem State.setSlot_pending (s : State) (k : SlotIx) (c : Option Route) : (s.setSlot k c).pending = s.pending := rfl

/-! ### `State.mapRoutes` -/

@[simp] theorem State.mapRoutes_run (s : State) (f : Route → Route) : (s.mapRoutes f).run = s.run := rfl
@[simp] theorem State.mapRoutes_gates (s : State) (f : Route → Route) : (s.mapRoutes f).gates = s.gates := rfl
@[simp] theorem State.mapRoutes_power (s : State) (f : Route → Route) : (s.mapRoutes f).power = s.power := rfl
@[simp] theorem State.mapRoutes_ring (s : State) (f : Route → Route) : (s.mapRoutes f).ring = s.ring := rfl
@[simp] theorem State.mapRoutes_signal (s : State) (f : Route → Route) : (s.mapRoutes f).signal = s.signal := rfl
@[simp] theorem State.mapRoutes_port (s : State) (f : Route → Route) : (s.mapRoutes f).port = s.port := rfl
@[simp] theorem State.mapRoutes_store (s : State) (f : Route → Route) : (s.mapRoutes f).store = s.store := rfl
@[simp] theorem State.mapRoutes_pending (s : State) (f : Route → Route) : (s.mapRoutes f).pending = s.pending := rfl

/-! ### `State.setWorking` -/

@[simp] theorem State.setWorking_run (s : State) (w : WorkingCopy) : (s.setWorking w).run = s.run := rfl
@[simp] theorem State.setWorking_engine (s : State) (w : WorkingCopy) : (s.setWorking w).engine = s.engine := rfl
@[simp] theorem State.setWorking_gates (s : State) (w : WorkingCopy) : (s.setWorking w).gates = s.gates := rfl
@[simp] theorem State.setWorking_power (s : State) (w : WorkingCopy) : (s.setWorking w).power = s.power := rfl
@[simp] theorem State.setWorking_ring (s : State) (w : WorkingCopy) : (s.setWorking w).ring = s.ring := rfl
@[simp] theorem State.setWorking_signal (s : State) (w : WorkingCopy) : (s.setWorking w).signal = s.signal := rfl
@[simp] theorem State.setWorking_port (s : State) (w : WorkingCopy) : (s.setWorking w).port = s.port := rfl
@[simp] theorem State.setWorking_pending (s : State) (w : WorkingCopy) : (s.setWorking w).pending = s.pending := rfl

/-! ### `State.setInputSettings` -/

@[simp] theorem State.setInputSettings_run (s : State) (i : InputIx) (v : InputSettings) : (s.setInputSettings i v).run = s.run := rfl
@[simp] theorem State.setInputSettings_engine (s : State) (i : InputIx) (v : InputSettings) : (s.setInputSettings i v).engine = s.engine := rfl
@[simp] theorem State.setInputSettings_gates (s : State) (i : InputIx) (v : InputSettings) : (s.setInputSettings i v).gates = s.gates := rfl
@[simp] theorem State.setInputSettings_power (s : State) (i : InputIx) (v : InputSettings) : (s.setInputSettings i v).power = s.power := rfl
@[simp] theorem State.setInputSettings_ring (s : State) (i : InputIx) (v : InputSettings) : (s.setInputSettings i v).ring = s.ring := rfl
@[simp] theorem State.setInputSettings_signal (s : State) (i : InputIx) (v : InputSettings) : (s.setInputSettings i v).signal = s.signal := rfl
@[simp] theorem State.setInputSettings_port (s : State) (i : InputIx) (v : InputSettings) : (s.setInputSettings i v).port = s.port := rfl
@[simp] theorem State.setInputSettings_pending (s : State) (i : InputIx) (v : InputSettings) : (s.setInputSettings i v).pending = s.pending := rfl

/-! ### `State.setPrecinctSettings` -/

@[simp] theorem State.setPrecinctSettings_run (s : State) (p : PrecinctIx) (v : PrecinctSettings) : (s.setPrecinctSettings p v).run = s.run := rfl
@[simp] theorem State.setPrecinctSettings_engine (s : State) (p : PrecinctIx) (v : PrecinctSettings) : (s.setPrecinctSettings p v).engine = s.engine := rfl
@[simp] theorem State.setPrecinctSettings_gates (s : State) (p : PrecinctIx) (v : PrecinctSettings) : (s.setPrecinctSettings p v).gates = s.gates := rfl
@[simp] theorem State.setPrecinctSettings_power (s : State) (p : PrecinctIx) (v : PrecinctSettings) : (s.setPrecinctSettings p v).power = s.power := rfl
@[simp] theorem State.setPrecinctSettings_ring (s : State) (p : PrecinctIx) (v : PrecinctSettings) : (s.setPrecinctSettings p v).ring = s.ring := rfl
@[simp] theorem State.setPrecinctSettings_signal (s : State) (p : PrecinctIx) (v : PrecinctSettings) : (s.setPrecinctSettings p v).signal = s.signal := rfl
@[simp] theorem State.setPrecinctSettings_port (s : State) (p : PrecinctIx) (v : PrecinctSettings) : (s.setPrecinctSettings p v).port = s.port := rfl
@[simp] theorem State.setPrecinctSettings_pending (s : State) (p : PrecinctIx) (v : PrecinctSettings) : (s.setPrecinctSettings p v).pending = s.pending := rfl

/-! ### `State.setZoneSettings` -/

@[simp] theorem State.setZoneSettings_run (s : State) (z : ZoneIx) (v : ZoneSettings) : (s.setZoneSettings z v).run = s.run := rfl
@[simp] theorem State.setZoneSettings_engine (s : State) (z : ZoneIx) (v : ZoneSettings) : (s.setZoneSettings z v).engine = s.engine := rfl
@[simp] theorem State.setZoneSettings_gates (s : State) (z : ZoneIx) (v : ZoneSettings) : (s.setZoneSettings z v).gates = s.gates := rfl
@[simp] theorem State.setZoneSettings_power (s : State) (z : ZoneIx) (v : ZoneSettings) : (s.setZoneSettings z v).power = s.power := rfl
@[simp] theorem State.setZoneSettings_ring (s : State) (z : ZoneIx) (v : ZoneSettings) : (s.setZoneSettings z v).ring = s.ring := rfl
@[simp] theorem State.setZoneSettings_signal (s : State) (z : ZoneIx) (v : ZoneSettings) : (s.setZoneSettings z v).signal = s.signal := rfl
@[simp] theorem State.setZoneSettings_port (s : State) (z : ZoneIx) (v : ZoneSettings) : (s.setZoneSettings z v).port = s.port := rfl
@[simp] theorem State.setZoneSettings_pending (s : State) (z : ZoneIx) (v : ZoneSettings) : (s.setZoneSettings z v).pending = s.pending := rfl

/-! ### `State.setDistance` -/

@[simp] theorem State.setDistance_run (s : State) (st : StationIx) (z : ZoneIx) (d : Nat) : (s.setDistance st z d).run = s.run := rfl
@[simp] theorem State.setDistance_engine (s : State) (st : StationIx) (z : ZoneIx) (d : Nat) : (s.setDistance st z d).engine = s.engine := rfl
@[simp] theorem State.setDistance_gates (s : State) (st : StationIx) (z : ZoneIx) (d : Nat) : (s.setDistance st z d).gates = s.gates := rfl
@[simp] theorem State.setDistance_power (s : State) (st : StationIx) (z : ZoneIx) (d : Nat) : (s.setDistance st z d).power = s.power := rfl
@[simp] theorem State.setDistance_ring (s : State) (st : StationIx) (z : ZoneIx) (d : Nat) : (s.setDistance st z d).ring = s.ring := rfl
@[simp] theorem State.setDistance_signal (s : State) (st : StationIx) (z : ZoneIx) (d : Nat) : (s.setDistance st z d).signal = s.signal := rfl
@[simp] theorem State.setDistance_port (s : State) (st : StationIx) (z : ZoneIx) (d : Nat) : (s.setDistance st z d).port = s.port := rfl
@[simp] theorem State.setDistance_pending (s : State) (st : StationIx) (z : ZoneIx) (d : Nat) : (s.setDistance st z d).pending = s.pending := rfl

/-! ### `State.setCue` -/

@[simp] theorem State.setCue_run (s : State) (c : CueIx) (v : Option Cue) : (s.setCue c v).run = s.run := rfl
@[simp] theorem State.setCue_engine (s : State) (c : CueIx) (v : Option Cue) : (s.setCue c v).engine = s.engine := rfl
@[simp] theorem State.setCue_gates (s : State) (c : CueIx) (v : Option Cue) : (s.setCue c v).gates = s.gates := rfl
@[simp] theorem State.setCue_power (s : State) (c : CueIx) (v : Option Cue) : (s.setCue c v).power = s.power := rfl
@[simp] theorem State.setCue_ring (s : State) (c : CueIx) (v : Option Cue) : (s.setCue c v).ring = s.ring := rfl
@[simp] theorem State.setCue_signal (s : State) (c : CueIx) (v : Option Cue) : (s.setCue c v).signal = s.signal := rfl
@[simp] theorem State.setCue_port (s : State) (c : CueIx) (v : Option Cue) : (s.setCue c v).port = s.port := rfl
@[simp] theorem State.setCue_pending (s : State) (c : CueIx) (v : Option Cue) : (s.setCue c v).pending = s.pending := rfl

/-! ### `State.setZoneLive` -/

@[simp] theorem State.setZoneLive_run (s : State) (z : ZoneIx) (v : ZoneLive) : (s.setZoneLive z v).run = s.run := rfl
@[simp] theorem State.setZoneLive_engine (s : State) (z : ZoneIx) (v : ZoneLive) : (s.setZoneLive z v).engine = s.engine := rfl
@[simp] theorem State.setZoneLive_gates (s : State) (z : ZoneIx) (v : ZoneLive) : (s.setZoneLive z v).gates = s.gates := rfl
@[simp] theorem State.setZoneLive_ring (s : State) (z : ZoneIx) (v : ZoneLive) : (s.setZoneLive z v).ring = s.ring := rfl
@[simp] theorem State.setZoneLive_signal (s : State) (z : ZoneIx) (v : ZoneLive) : (s.setZoneLive z v).signal = s.signal := rfl
@[simp] theorem State.setZoneLive_port (s : State) (z : ZoneIx) (v : ZoneLive) : (s.setZoneLive z v).port = s.port := rfl
@[simp] theorem State.setZoneLive_store (s : State) (z : ZoneIx) (v : ZoneLive) : (s.setZoneLive z v).store = s.store := rfl
@[simp] theorem State.setZoneLive_pending (s : State) (z : ZoneIx) (v : ZoneLive) : (s.setZoneLive z v).pending = s.pending := rfl

/-! ### `State.setAmp` -/

@[simp] theorem State.setAmp_run (s : State) (z : ZoneIx) (l : Line) : (s.setAmp z l).run = s.run := rfl
@[simp] theorem State.setAmp_engine (s : State) (z : ZoneIx) (l : Line) : (s.setAmp z l).engine = s.engine := rfl
@[simp] theorem State.setAmp_gates (s : State) (z : ZoneIx) (l : Line) : (s.setAmp z l).gates = s.gates := rfl
@[simp] theorem State.setAmp_ring (s : State) (z : ZoneIx) (l : Line) : (s.setAmp z l).ring = s.ring := rfl
@[simp] theorem State.setAmp_signal (s : State) (z : ZoneIx) (l : Line) : (s.setAmp z l).signal = s.signal := rfl
@[simp] theorem State.setAmp_port (s : State) (z : ZoneIx) (l : Line) : (s.setAmp z l).port = s.port := rfl
@[simp] theorem State.setAmp_store (s : State) (z : ZoneIx) (l : Line) : (s.setAmp z l).store = s.store := rfl
@[simp] theorem State.setAmp_pending (s : State) (z : ZoneIx) (l : Line) : (s.setAmp z l).pending = s.pending := rfl

/-! ### `State.setKey` -/

@[simp] theorem State.setKey_run (s : State) (k : KeyIx) (l : Line) : (s.setKey k l).run = s.run := rfl
@[simp] theorem State.setKey_engine (s : State) (k : KeyIx) (l : Line) : (s.setKey k l).engine = s.engine := rfl
@[simp] theorem State.setKey_gates (s : State) (k : KeyIx) (l : Line) : (s.setKey k l).gates = s.gates := rfl
@[simp] theorem State.setKey_ring (s : State) (k : KeyIx) (l : Line) : (s.setKey k l).ring = s.ring := rfl
@[simp] theorem State.setKey_signal (s : State) (k : KeyIx) (l : Line) : (s.setKey k l).signal = s.signal := rfl
@[simp] theorem State.setKey_port (s : State) (k : KeyIx) (l : Line) : (s.setKey k l).port = s.port := rfl
@[simp] theorem State.setKey_store (s : State) (k : KeyIx) (l : Line) : (s.setKey k l).store = s.store := rfl
@[simp] theorem State.setKey_pending (s : State) (k : KeyIx) (l : Line) : (s.setKey k l).pending = s.pending := rfl

/-! ### `State.setControllerLive` -/

@[simp] theorem State.setControllerLive_run (s : State) (z : ZoneIx) (on : Bool) : (s.setControllerLive z on).run = s.run := rfl
@[simp] theorem State.setControllerLive_engine (s : State) (z : ZoneIx) (on : Bool) : (s.setControllerLive z on).engine = s.engine := rfl
@[simp] theorem State.setControllerLive_gates (s : State) (z : ZoneIx) (on : Bool) : (s.setControllerLive z on).gates = s.gates := rfl
@[simp] theorem State.setControllerLive_ring (s : State) (z : ZoneIx) (on : Bool) : (s.setControllerLive z on).ring = s.ring := rfl
@[simp] theorem State.setControllerLive_signal (s : State) (z : ZoneIx) (on : Bool) : (s.setControllerLive z on).signal = s.signal := rfl
@[simp] theorem State.setControllerLive_port (s : State) (z : ZoneIx) (on : Bool) : (s.setControllerLive z on).port = s.port := rfl
@[simp] theorem State.setControllerLive_store (s : State) (z : ZoneIx) (on : Bool) : (s.setControllerLive z on).store = s.store := rfl
@[simp] theorem State.setControllerLive_pending (s : State) (z : ZoneIx) (on : Bool) : (s.setControllerLive z on).pending = s.pending := rfl

/-! ### `State.setRing` -/

@[simp] theorem State.setRing_run (s : State) (z : ZoneIx) (v : Ring) : (s.setRing z v).run = s.run := rfl
@[simp] theorem State.setRing_engine (s : State) (z : ZoneIx) (v : Ring) : (s.setRing z v).engine = s.engine := rfl
@[simp] theorem State.setRing_gates (s : State) (z : ZoneIx) (v : Ring) : (s.setRing z v).gates = s.gates := rfl
@[simp] theorem State.setRing_power (s : State) (z : ZoneIx) (v : Ring) : (s.setRing z v).power = s.power := rfl
@[simp] theorem State.setRing_signal (s : State) (z : ZoneIx) (v : Ring) : (s.setRing z v).signal = s.signal := rfl
@[simp] theorem State.setRing_port (s : State) (z : ZoneIx) (v : Ring) : (s.setRing z v).port = s.port := rfl
@[simp] theorem State.setRing_store (s : State) (z : ZoneIx) (v : Ring) : (s.setRing z v).store = s.store := rfl
@[simp] theorem State.setRing_pending (s : State) (z : ZoneIx) (v : Ring) : (s.setRing z v).pending = s.pending := rfl

/-! ### `State.setFrame` -/

@[simp] theorem State.setFrame_run (s : State) (z : ZoneIx) (v : ZoneFrame) : (s.setFrame z v).run = s.run := rfl
@[simp] theorem State.setFrame_engine (s : State) (z : ZoneIx) (v : ZoneFrame) : (s.setFrame z v).engine = s.engine := rfl
@[simp] theorem State.setFrame_gates (s : State) (z : ZoneIx) (v : ZoneFrame) : (s.setFrame z v).gates = s.gates := rfl
@[simp] theorem State.setFrame_power (s : State) (z : ZoneIx) (v : ZoneFrame) : (s.setFrame z v).power = s.power := rfl
@[simp] theorem State.setFrame_signal (s : State) (z : ZoneIx) (v : ZoneFrame) : (s.setFrame z v).signal = s.signal := rfl
@[simp] theorem State.setFrame_port (s : State) (z : ZoneIx) (v : ZoneFrame) : (s.setFrame z v).port = s.port := rfl
@[simp] theorem State.setFrame_store (s : State) (z : ZoneIx) (v : ZoneFrame) : (s.setFrame z v).store = s.store := rfl
@[simp] theorem State.setFrame_pending (s : State) (z : ZoneIx) (v : ZoneFrame) : (s.setFrame z v).pending = s.pending := rfl

/-! ### `State.breakFrame` -/

@[simp] theorem State.breakFrame_run (s : State) (z : ZoneIx) : (s.breakFrame z).run = s.run := rfl
@[simp] theorem State.breakFrame_engine (s : State) (z : ZoneIx) : (s.breakFrame z).engine = s.engine := rfl
@[simp] theorem State.breakFrame_gates (s : State) (z : ZoneIx) : (s.breakFrame z).gates = s.gates := rfl
@[simp] theorem State.breakFrame_power (s : State) (z : ZoneIx) : (s.breakFrame z).power = s.power := rfl
@[simp] theorem State.breakFrame_signal (s : State) (z : ZoneIx) : (s.breakFrame z).signal = s.signal := rfl
@[simp] theorem State.breakFrame_port (s : State) (z : ZoneIx) : (s.breakFrame z).port = s.port := rfl
@[simp] theorem State.breakFrame_store (s : State) (z : ZoneIx) : (s.breakFrame z).store = s.store := rfl
@[simp] theorem State.breakFrame_pending (s : State) (z : ZoneIx) : (s.breakFrame z).pending = s.pending := rfl

/-! ### `State.setGates` -/

@[simp] theorem State.setGates_run (s : State) (g : GateUnit) : (s.setGates g).run = s.run := rfl
@[simp] theorem State.setGates_engine (s : State) (g : GateUnit) : (s.setGates g).engine = s.engine := rfl
@[simp] theorem State.setGates_gates (s : State) (g : GateUnit) : (s.setGates g).gates = g := rfl
@[simp] theorem State.setGates_power (s : State) (g : GateUnit) : (s.setGates g).power = s.power := rfl
@[simp] theorem State.setGates_ring (s : State) (g : GateUnit) : (s.setGates g).ring = s.ring := rfl
@[simp] theorem State.setGates_signal (s : State) (g : GateUnit) : (s.setGates g).signal = s.signal := rfl
@[simp] theorem State.setGates_port (s : State) (g : GateUnit) : (s.setGates g).port = s.port := rfl
@[simp] theorem State.setGates_store (s : State) (g : GateUnit) : (s.setGates g).store = s.store := rfl
@[simp] theorem State.setGates_pending (s : State) (g : GateUnit) : (s.setGates g).pending = s.pending := rfl

/-! ### `State.setSignal` -/

@[simp] theorem State.setSignal_run (s : State) (g : SignalEngine) : (s.setSignal g).run = s.run := rfl
@[simp] theorem State.setSignal_engine (s : State) (g : SignalEngine) : (s.setSignal g).engine = s.engine := rfl
@[simp] theorem State.setSignal_gates (s : State) (g : SignalEngine) : (s.setSignal g).gates = s.gates := rfl
@[simp] theorem State.setSignal_power (s : State) (g : SignalEngine) : (s.setSignal g).power = s.power := rfl
@[simp] theorem State.setSignal_ring (s : State) (g : SignalEngine) : (s.setSignal g).ring = s.ring := rfl
@[simp] theorem State.setSignal_signal (s : State) (g : SignalEngine) : (s.setSignal g).signal = g := rfl
@[simp] theorem State.setSignal_port (s : State) (g : SignalEngine) : (s.setSignal g).port = s.port := rfl
@[simp] theorem State.setSignal_store (s : State) (g : SignalEngine) : (s.setSignal g).store = s.store := rfl
@[simp] theorem State.setSignal_pending (s : State) (g : SignalEngine) : (s.setSignal g).pending = s.pending := rfl

/-! ### `State.setClock` -/

@[simp] theorem State.setClock_run (s : State) (c : Clock) : (s.setClock c).run = s.run := rfl
@[simp] theorem State.setClock_engine (s : State) (c : Clock) : (s.setClock c).engine = s.engine := rfl
@[simp] theorem State.setClock_gates (s : State) (c : Clock) : (s.setClock c).gates = s.gates := rfl
@[simp] theorem State.setClock_power (s : State) (c : Clock) : (s.setClock c).power = s.power := rfl
@[simp] theorem State.setClock_ring (s : State) (c : Clock) : (s.setClock c).ring = s.ring := rfl
@[simp] theorem State.setClock_port (s : State) (c : Clock) : (s.setClock c).port = s.port := rfl
@[simp] theorem State.setClock_store (s : State) (c : Clock) : (s.setClock c).store = s.store := rfl
@[simp] theorem State.setClock_pending (s : State) (c : Clock) : (s.setClock c).pending = s.pending := rfl

/-! ### `State.setEngine` -/

@[simp] theorem State.setEngine_run (s : State) (e : RouteEngine) : (s.setEngine e).run = s.run := rfl
@[simp] theorem State.setEngine_engine (s : State) (e : RouteEngine) : (s.setEngine e).engine = e := rfl
@[simp] theorem State.setEngine_gates (s : State) (e : RouteEngine) : (s.setEngine e).gates = s.gates := rfl
@[simp] theorem State.setEngine_power (s : State) (e : RouteEngine) : (s.setEngine e).power = s.power := rfl
@[simp] theorem State.setEngine_ring (s : State) (e : RouteEngine) : (s.setEngine e).ring = s.ring := rfl
@[simp] theorem State.setEngine_signal (s : State) (e : RouteEngine) : (s.setEngine e).signal = s.signal := rfl
@[simp] theorem State.setEngine_port (s : State) (e : RouteEngine) : (s.setEngine e).port = s.port := rfl
@[simp] theorem State.setEngine_store (s : State) (e : RouteEngine) : (s.setEngine e).store = s.store := rfl
@[simp] theorem State.setEngine_pending (s : State) (e : RouteEngine) : (s.setEngine e).pending = s.pending := rfl

/-! ### `State.setPort` -/

@[simp] theorem State.setPort_run (s : State) (p : Port) : (s.setPort p).run = s.run := rfl
@[simp] theorem State.setPort_engine (s : State) (p : Port) : (s.setPort p).engine = s.engine := rfl
@[simp] theorem State.setPort_gates (s : State) (p : Port) : (s.setPort p).gates = s.gates := rfl
@[simp] theorem State.setPort_power (s : State) (p : Port) : (s.setPort p).power = s.power := rfl
@[simp] theorem State.setPort_ring (s : State) (p : Port) : (s.setPort p).ring = s.ring := rfl
@[simp] theorem State.setPort_signal (s : State) (p : Port) : (s.setPort p).signal = s.signal := rfl
@[simp] theorem State.setPort_port (s : State) (p : Port) : (s.setPort p).port = p := rfl
@[simp] theorem State.setPort_store (s : State) (p : Port) : (s.setPort p).store = s.store := rfl
@[simp] theorem State.setPort_pending (s : State) (p : Port) : (s.setPort p).pending = s.pending := rfl

/-! ### `State.setStore` -/

@[simp] theorem State.setStore_run (s : State) (st : Store) : (s.setStore st).run = s.run := rfl
@[simp] theorem State.setStore_engine (s : State) (st : Store) : (s.setStore st).engine = s.engine := rfl
@[simp] theorem State.setStore_gates (s : State) (st : Store) : (s.setStore st).gates = s.gates := rfl
@[simp] theorem State.setStore_power (s : State) (st : Store) : (s.setStore st).power = s.power := rfl
@[simp] theorem State.setStore_ring (s : State) (st : Store) : (s.setStore st).ring = s.ring := rfl
@[simp] theorem State.setStore_signal (s : State) (st : Store) : (s.setStore st).signal = s.signal := rfl
@[simp] theorem State.setStore_port (s : State) (st : Store) : (s.setStore st).port = s.port := rfl
@[simp] theorem State.setStore_store (s : State) (st : Store) : (s.setStore st).store = st := rfl
@[simp] theorem State.setStore_pending (s : State) (st : Store) : (s.setStore st).pending = s.pending := rfl

/-! ### `State.hand` -/

@[simp] theorem State.hand_run (s : State) (a : Answer) : (s.hand a).run = s.run := rfl
@[simp] theorem State.hand_engine (s : State) (a : Answer) : (s.hand a).engine = s.engine := rfl
@[simp] theorem State.hand_gates (s : State) (a : Answer) : (s.hand a).gates = s.gates := rfl
@[simp] theorem State.hand_power (s : State) (a : Answer) : (s.hand a).power = s.power := rfl
@[simp] theorem State.hand_ring (s : State) (a : Answer) : (s.hand a).ring = s.ring := rfl
@[simp] theorem State.hand_signal (s : State) (a : Answer) : (s.hand a).signal = s.signal := rfl
@[simp] theorem State.hand_store (s : State) (a : Answer) : (s.hand a).store = s.store := rfl
@[simp] theorem State.hand_pending (s : State) (a : Answer) : (s.hand a).pending = s.pending := rfl

/-! ### `State.raise` -/

@[simp] theorem State.raise_run (s : State) (n : Notice) : (s.raise n).run = s.run := rfl
@[simp] theorem State.raise_engine (s : State) (n : Notice) : (s.raise n).engine = s.engine := rfl
@[simp] theorem State.raise_gates (s : State) (n : Notice) : (s.raise n).gates = s.gates := rfl
@[simp] theorem State.raise_power (s : State) (n : Notice) : (s.raise n).power = s.power := rfl
@[simp] theorem State.raise_ring (s : State) (n : Notice) : (s.raise n).ring = s.ring := rfl
@[simp] theorem State.raise_signal (s : State) (n : Notice) : (s.raise n).signal = s.signal := rfl
@[simp] theorem State.raise_store (s : State) (n : Notice) : (s.raise n).store = s.store := rfl
@[simp] theorem State.raise_pending (s : State) (n : Notice) : (s.raise n).pending = s.pending := rfl

/-! ### `State.raiseIf` -/

@[simp] theorem State.raiseIf_run (s : State) (c : Bool) (n : Notice) : (s.raiseIf c n).run = s.run := by
  cases c <;> rfl
@[simp] theorem State.raiseIf_engine (s : State) (c : Bool) (n : Notice) : (s.raiseIf c n).engine = s.engine := by
  cases c <;> rfl
@[simp] theorem State.raiseIf_gates (s : State) (c : Bool) (n : Notice) : (s.raiseIf c n).gates = s.gates := by
  cases c <;> rfl
@[simp] theorem State.raiseIf_power (s : State) (c : Bool) (n : Notice) : (s.raiseIf c n).power = s.power := by
  cases c <;> rfl
@[simp] theorem State.raiseIf_ring (s : State) (c : Bool) (n : Notice) : (s.raiseIf c n).ring = s.ring := by
  cases c <;> rfl
@[simp] theorem State.raiseIf_signal (s : State) (c : Bool) (n : Notice) : (s.raiseIf c n).signal = s.signal := by
  cases c <;> rfl
@[simp] theorem State.raiseIf_store (s : State) (c : Bool) (n : Notice) : (s.raiseIf c n).store = s.store := by
  cases c <;> rfl
@[simp] theorem State.raiseIf_pending (s : State) (c : Bool) (n : Notice) : (s.raiseIf c n).pending = s.pending := by
  cases c <;> rfl

/-! ### Reading after writing -/

theorem State.setSlot_route? (s : State) (j k : SlotIx) (c : Option Route) :
    (s.setSlot k c).route? j = if k = j then c else s.route? j := by
  simp [State.route?, State.setSlot, Table.get_set]

@[simp] theorem State.mapRoutes_route? (s : State) (f : Route → Route) (k : SlotIx) :
    (s.mapRoutes f).route? k = (s.route? k).map f := by
  simp [State.route?, State.mapRoutes]

theorem State.setZoneLive_zoneLive (s : State) (y z : ZoneIx) (v : ZoneLive) :
    (s.setZoneLive z v).zoneLive y = if z = y then v else s.zoneLive y := by
  simp [State.zoneLive, State.setZoneLive, Table.get_set]

theorem State.setRing_ringOf (s : State) (y z : ZoneIx) (v : Ring) :
    (s.setRing z v).ringOf y = if z = y then v else s.ringOf y := by
  simp [State.ringOf, State.setRing, Table.get_set]

theorem State.setInputSettings_inputSettings (s : State) (i j : InputIx) (v : InputSettings) :
    (s.setInputSettings i v).inputSettings j = if i = j then v else s.inputSettings j := by
  simp [State.inputSettings, State.setInputSettings, State.setWorking, Table.get_set]

theorem State.setZoneSettings_zoneSettings (s : State) (y z : ZoneIx) (v : ZoneSettings) :
    (s.setZoneSettings z v).zoneSettings y = if z = y then v else s.zoneSettings y := by
  simp [State.zoneSettings, State.setZoneSettings, State.setWorking, Table.get_set]

theorem State.setCue_cue? (s : State) (b c : CueIx) (v : Option Cue) :
    (s.setCue c v).cue? b = if c = b then v else s.cue? b := by
  simp [State.cue?, State.setCue, State.setWorking, Table.get_set]

@[simp] theorem State.setInputSettings_zoneSettings (s : State) (i : InputIx) (v : InputSettings) (z : ZoneIx) :
    (s.setInputSettings i v).zoneSettings z = s.zoneSettings z := rfl

@[simp] theorem State.setZoneSettings_inputSettings (s : State) (z : ZoneIx) (v : ZoneSettings) (i : InputIx) :
    (s.setZoneSettings z v).inputSettings i = s.inputSettings i := rfl

@[simp] theorem State.setCue_zoneSettings (s : State) (c : CueIx) (v : Option Cue) (z : ZoneIx) :
    (s.setCue c v).zoneSettings z = s.zoneSettings z := rfl

@[simp] theorem State.setCue_inputSettings (s : State) (c : CueIx) (v : Option Cue) (i : InputIx) :
    (s.setCue c v).inputSettings i = s.inputSettings i := rfl

/-! ### The port's answers -/

@[simp] theorem Port.beginAnswer_answers (p : Port) : p.beginAnswer.answers = p.answers := by
  unfold Port.beginAnswer
  split <;> rfl

@[simp] theorem Port.beginAnswer_phase (p : Port) : p.beginAnswer.phase = p.phase := by
  unfold Port.beginAnswer
  split <;> rfl

@[simp] theorem Port.beginAnswer_inProgress (p : Port) : p.beginAnswer.inProgress = p.inProgress := by
  unfold Port.beginAnswer
  split <;> rfl

@[simp] theorem Port.beginAnswer_notices (p : Port) : p.beginAnswer.notices = p.notices := by
  unfold Port.beginAnswer
  split <;> rfl

@[simp] theorem Port.beginAnswer_mask (p : Port) : p.beginAnswer.mask = p.mask := by
  unfold Port.beginAnswer
  split <;> rfl

@[simp] theorem Port.beginAnswer_attnLow (p : Port) : p.beginAnswer.attnLow = p.attnLow := by
  unfold Port.beginAnswer
  split <;> rfl

@[simp] theorem State.hand_answers (s : State) (a : Answer) : (s.hand a).port.answers = s.port.answers ++ [a] := by
  simp [State.hand]

@[simp] theorem State.hand_inProgress (s : State) (a : Answer) :
    (s.hand a).port.inProgress = s.port.inProgress := by
  simp [State.hand]

end Sys2Proof.Machine
end

