-- ==== Sys2Proof/Laws/Ops.lean ====
section
/-! SUPPORT. What each shared operation can do, said once. -/

namespace Sys2Proof.Machine

open Sys2Proof.Safety

/-! ## Requests -/

theorem whenRunning_running {s : State} (h : s.run = .running) (f : State → State) : whenRunning f s = f s := by
  simp [whenRunning, h]

theorem whenRunning_stopped {s : State} (h : s.run ≠ .running) (f : State → State) : whenRunning f s = s := by
  unfold whenRunning
  split <;> simp_all

theorem listening_iff (p : Port) : p.listening = true ↔ p.phase = .hunting ∧ p.driver = false := by
  unfold Port.listening
  split <;> simp_all

/-- A frame reaches a running part whose port listens, and no other. -/
theorem onFrame_listening {s : State} (h : s.run = .running) (hl : s.port.listening = true) (f : State → State) :
    onFrame f s = f s := by
  simp [onFrame, whenRunning, h, hl]

theorem onFrame_lost {s : State} (h : s.run ≠ .running ∨ s.port.listening = false) (f : State → State) :
    onFrame f s = s := by
  unfold onFrame whenRunning
  split <;> simp_all

theorem onRequest_lost {s : State} (h : s.run ≠ .running ∨ s.port.listening = false) (kind : Byte)
    (owner : State → State × Reply) : onRequest kind owner s = s :=
  onFrame_lost h _

theorem onRequest_busy {s : State} {p : InProgress} (h : s.run = .running) (hl : s.port.listening = true)
    (hp : s.port.inProgress = some p) (kind : Byte) (owner : State → State × Reply) :
    onRequest kind owner s = answered s kind .busy [] := by
  simp [onRequest, onFrame_listening h hl, takeRequest, hp, answered]

/-- A request taken by a ready part whose owner answers at once. -/
theorem onRequest_answered {s t : State} {st : Status} {body : List Byte} {owner : State → State × Reply}
    (h : Ready s) (ho : owner s = (t, some (st, body))) (kind : Byte) :
    onRequest kind owner s = answered t kind st body := by
  simp [onRequest, onFrame_listening h.1 h.2.2, takeRequest, h.2.1, ho, answered]

/-- A request taken by a ready part whose owner begins a scan. -/
theorem onRequest_started {s t : State} {owner : State → State × Reply} (h : Ready s) (ho : owner s = (t, none))
    (kind : Byte) :
    onRequest kind owner s = t.setPort { t.port with inProgress := some { kind := kind, scan := true } } := by
  simp [onRequest, onFrame_listening h.1 h.2.2, takeRequest, h.2.1, ho]

/-- Everything a request can do: be lost on a part that does not receive it, be answered BUSY, be answered by its owner,
or begin a scan. -/
theorem onRequest_cases (kind : Byte) (owner : State → State × Reply) (s : State) :
    ((s.run ≠ .running ∨ s.port.listening = false) ∧ onRequest kind owner s = s)
    ∨ (s.run = .running ∧ s.port.listening = true ∧ s.port.inProgress ≠ none
        ∧ onRequest kind owner s = answered s kind .busy [])
    ∨ (Ready s ∧ ∃ t st body, owner s = (t, some (st, body)) ∧ onRequest kind owner s = answered t kind st body)
    ∨ (Ready s ∧ ∃ t, owner s = (t, none)
        ∧ onRequest kind owner s = t.setPort { t.port with inProgress := some { kind := kind, scan := true } }) := by
  by_cases hr : s.run = .running
  · cases hl : s.port.listening with
    | false => exact .inl ⟨.inr rfl, onRequest_lost (.inr hl) kind owner⟩
    | true =>
      cases hp : s.port.inProgress with
      | some p => exact .inr (.inl ⟨hr, rfl, by simp, onRequest_busy hr hl hp kind owner⟩)
      | none =>
        have h : Ready s := ⟨hr, hp, hl⟩
        rcases ho : owner s with ⟨t, _ | ⟨st, body⟩⟩
        · exact .inr (.inr (.inr ⟨h, t, rfl, onRequest_started h ho kind⟩))
        · exact .inr (.inr (.inl ⟨h, t, st, body, rfl, onRequest_answered h ho kind⟩))
  · exact .inl ⟨.inl hr, onRequest_lost (.inl hr) kind owner⟩

/-! ## Operand forms -/

@[simp] theorem number?_succ (i : Fin n) : number? n (i.1 + 1) = some i := by
  simp [number?, Nat.succ_le_of_lt i.2]

theorem number?_outside {n k : Nat} (h : outside n k) : number? n k = none := by
  simp only [number?, outside] at *
  rw [dif_neg (by omega)]

theorem number?_eq_some {n k : Nat} {i : Fin n} : number? n k = some i ↔ k = i.1 + 1 := by
  unfold number?
  split
  · simp only [Option.some.injEq, Fin.ext_iff]
    omega
  · have := i.2
    simp
    omega

@[simp] theorem index?_val (i : Fin n) : index? n i.1 = some i := by
  simp [index?]

theorem index?_outside {n k : Nat} (h : n ≤ k) : index? n k = none := by
  simp [index?, Nat.not_lt.mpr h]

@[simp] theorem optional?_index (p : Option (Fin n)) : optional? (index? n) (p.map Fin.val) = some p := by
  cases p <;> simp [optional?]

@[simp] theorem optional?_number (p : Option (Fin n)) :
    optional? (number? n) (p.map fun i => i.1 + 1) = some p := by
  cases p <;> simp [optional?]

theorem clampNat_zero (hi x : Nat) : clampNat 0 hi x = min hi x := by
  simp [clampNat]

@[simp] theorem clampChanges_none [DecidableEq α] (f : α → α) : clampChanges f none = false :=
  rfl

theorem clampChanges_some [DecidableEq α] (f : α → α) (a : α) : clampChanges f (some a) = true ↔ f a ≠ a := by
  simp [clampChanges]

theorem clampInt_ne {lo hi x : Int} (h : lo ≤ hi) : clampInt lo hi x ≠ x ↔ x < lo ∨ hi < x := by
  simp only [clampInt]
  omega

theorem clampNat_ne {lo hi x : Nat} (h : lo ≤ hi) : clampNat lo hi x ≠ x ↔ x < lo ∨ hi < x := by
  simp only [clampNat]
  omega

/-! ## The table -/

theorem State.slotOfKey?_eq_some {s : State} {i : InputIx} {z : ZoneIx} {k : SlotIx} :
    s.slotOfKey? i z = some k ↔
      (∃ r, s.route? k = some r ∧ r.input = i ∧ r.zone = z)
      ∧ ∀ j, j < k → ∀ r, s.route? j = some r → ¬(r.input = i ∧ r.zone = z) := by
  have key : ∀ c : Option Route, holdsKey i z c = true ↔ ∃ r, c = some r ∧ r.input = i ∧ r.zone = z := by
    intro c
    cases c <;> simp [holdsKey]
  rw [State.slotOfKey?, Table.first?_eq_some, key]
  refine and_congr Iff.rfl (forall₂_congr fun j _ => ?_)
  rw [Bool.eq_false_iff, Ne, key]
  simp [State.route?]

theorem State.slotOfKey?_eq_none {s : State} {i : InputIx} {z : ZoneIx} :
    s.slotOfKey? i z = none ↔ ∀ k r, s.route? k = some r → ¬(r.input = i ∧ r.zone = z) := by
  rw [State.slotOfKey?, Table.first?_eq_none]
  refine forall_congr' fun k => ?_
  cases h : s.engine.table.get k <;> simp [holdsKey, State.route?, h]

/-- With no two records of one key, a held key's slot is the slot of its record. -/
theorem State.slotOfKey?_of_route {s : State} (hd : DistinctKeys s) {k : SlotIx} {r : Route}
    (h : s.route? k = some r) : s.slotOfKey? r.input r.zone = some k := by
  refine State.slotOfKey?_eq_some.mpr ⟨⟨r, h, rfl, rfl⟩, fun j hj b hb e => ?_⟩
  have e := hd j k b r hb h e.1 e.2
  subst e
  exact absurd hj (Nat.lt_irrefl _)

theorem State.lowestFree?_eq_some {s : State} {k : SlotIx} :
    s.lowestFree? = some k ↔ s.route? k = none ∧ ∀ j, j < k → s.route? j ≠ none := by
  rw [State.lowestFree?, Table.first?_eq_some]
  refine and_congr Option.isNone_iff_eq_none (forall₂_congr fun j _ => ?_)
  cases h : s.engine.table.get j <;> simp [State.route?, h]

theorem State.lowestFree?_eq_none {s : State} : s.lowestFree? = none ↔ ∀ k, s.route? k ≠ none := by
  rw [State.lowestFree?, Table.first?_eq_none]
  refine forall_congr' fun j => ?_
  cases h : s.engine.table.get j <;> simp [State.route?, h]

/-- A slot that takes what it holds is left as it was. -/
theorem State.setSlot_route?_self {s : State} {k : SlotIx} {c : Option Route} (h : s.route? k = c) :
    s.setSlot k c = s := by
  have : s.engine.table.set k c = s.engine.table := by
    refine Table.ext_get fun j => ?_
    rw [Table.get_set]
    split
    · next e => rw [← h, ← e]; rfl
    · rfl
  simp [State.setSlot, this]

/-- What a name finds stands in the slot it gives. -/
theorem State.findRoute_ok {s : State} {name : RouteName} {k : SlotIx} {r : Route}
    (h : s.findRoute name = .ok (k, r)) : s.route? k = some r := by
  unfold State.findRoute at h
  split at h
  · split at h <;> simp_all
  · split at h
    · split at h
      · split at h <;> simp_all
      · simp at h
    · simp at h

theorem State.retireWhere_route? (s : State) (p : Route → Bool) (k : SlotIx) :
    (s.retireWhere p).route? k = (s.route? k).map fun r => if p r then retire r else r := by
  simp [State.retireWhere]

theorem State.haltZone_route? (s : State) (z : ZoneIx) (c : HaltCause) (k : SlotIx) :
    (s.haltZone z c).route? k = (s.route? k).map fun r => if r.zone = z then halt c r else r := by
  simp [State.haltZone]

theorem State.retapWhere_route? (s : State) (p : Route → Bool) (k : SlotIx) :
    (s.retapWhere p).route? k =
      (s.route? k).map fun r => if r.live.delay = none ∧ p r then retap (s.dueOf r) r else r := by
  simp [State.retapWhere]

/-! ## What the operations on a route keep -/

theorem retire_state (r : Route) : (retire r).state = .retiring := by
  unfold retire
  split <;> simp_all

theorem retire_eq (r : Route) (h : r.state ≠ .retiring) :
    retire r = { r with state := .retiring, armed := false } := by
  unfold retire
  split <;> simp_all

theorem halt_of_retiring (c : HaltCause) (r : Route) (h : r.state = .retiring) : halt c r = r := by
  simp [halt, h]

theorem halt_of_halted (b c : HaltCause) (r : Route) (h : r.state = .halted b) : halt c r = r := by
  simp [halt, h]

theorem halt_eq (c : HaltCause) (r : Route)
    (h : r.state = .steady ∨ r.state = .ramping ∨ ∃ d, r.state = .dipping d) :
    halt c r = { r with state := .halted c, armed := false } := by
  unfold halt
  rcases h with h | h | ⟨d, h⟩ <;> simp [h]

/-- After a zone's halt every route of it is RETIRING or HALTED. -/
theorem halt_barred (c : HaltCause) (r : Route) : (halt c r).state = .retiring ∨ ∃ b, (halt c r).state = .halted b := by
  unfold halt
  split <;> simp_all

/-- A change of due delay touches nothing of a route but its state. -/
theorem retap_eq (due : Nat) (r : Route) : ∃ st, retap due r = { r with state := st } := by
  unfold retap
  split
  · split
    · exact ⟨r.state, rfl⟩
    · exact ⟨_, rfl⟩
  · split
    · exact ⟨r.state, rfl⟩
    · exact ⟨_, rfl⟩
  · exact ⟨_, rfl⟩
  · exact ⟨r.state, rfl⟩
  · exact ⟨r.state, rfl⟩

/-! ## Notices -/

theorem State.raise_port (s : State) (n : Notice) :
    (s.raise n).port =
      { s.port with
        notices := s.port.notices ||| noticeMask n
        attnLow := attention (s.port.notices ||| noticeMask n) s.port.mask } :=
  rfl

/-! ## The ramp -/

/-- A step never leaves the interval between the current and the target. -/
theorem rampStep_between (n : Nat) (c t : Int) : min c t ≤ rampStep n c t ∧ rampStep n c t ≤ max c t := by
  unfold rampStep
  split
  · omega
  · split
    · omega
    · split <;> omega

end Sys2Proof.Machine
end

