-- ==== Sys2Proof/Laws/PerInstr.lean ====
section
/-! SUPPORT. What holds of each command as syntax: a request has a frame, of a KIND of the table, exactly when some block
owns it; an event has neither (R186; 10.6). -/

namespace Sys2Proof.Laws.RequestFrame

open Sys2Proof.Machine

/-- A command has a frame exactly when a block owns it, and the frame's KIND is one of the table. -/
def Statement (i : Instr) : Prop :=
  (requestBody i).isSome = (ownerOf i).isSome ∧ ∀ kind body, requestBody i = some (kind, body) → kind ∈ knownKinds

theorem of_request {i : Instr} (kind : Byte) (hk : kind ∈ knownKinds) (ho : (ownerOf i).isSome = true)
    (h : (requestBody i).map Prod.fst = some kind) : Statement i := by
  refine ⟨?_, fun k b e => ?_⟩
  · cases hr : requestBody i <;> simp_all
  · simp_all

theorem of_event {i : Instr} (h : requestBody i = none) (ho : (ownerOf i).isNone = true) : Statement i := by
  refine ⟨?_, fun k b e => ?_⟩
  · cases hr : ownerOf i <;> simp_all
  · simp_all

theorem placeRoute (input zone : Nat) (level : Int) (rate preset delay : Option Nat) : Statement (.placeRoute input zone level rate preset delay) :=
  of_request Kind.placeRoute (by decide) rfl rfl

theorem readRoute (name : RouteName) : Statement (.readRoute name) :=
  of_request Kind.readRoute (by decide) rfl rfl

theorem retireRoute (name : RouteName) : Statement (.retireRoute name) :=
  of_request Kind.retireRoute (by decide) rfl rfl

theorem stageRoute (name : RouteName) (base : Nat) (fields : StageFields) : Statement (.stageRoute name base fields) :=
  of_request Kind.stageRoute (by decide) rfl rfl

theorem armRoute (name : RouteName) : Statement (.armRoute name) :=
  of_request Kind.armRoute (by decide) rfl rfl

theorem haltRoute (name : RouteName) : Statement (.haltRoute name) :=
  of_request Kind.haltRoute (by decide) rfl rfl

theorem clearRoute (name : RouteName) : Statement (.clearRoute name) :=
  of_request Kind.clearRoute (by decide) rfl rfl

theorem writeCue (cue : Nat) (form : CueForm) : Statement (.writeCue cue form) := by
  cases form <;> exact of_request Kind.writeCue (by decide) rfl rfl

theorem readCue (cue : Nat) : Statement (.readCue cue) :=
  of_request Kind.readCue (by decide) rfl rfl

theorem fireCue (cue : Nat) : Statement (.fireCue cue) :=
  of_request Kind.fireCue (by decide) rfl rfl

theorem readCueQueue : Statement .readCueQueue :=
  of_request Kind.readCueQueue (by decide) rfl rfl

theorem readCueResult : Statement .readCueResult :=
  of_request Kind.readCueResult (by decide) rfl rfl

theorem findRoutes (start : SlotIx) (count mode : Nat) (sel : SelectorForm) : Statement (.findRoutes start count mode sel) :=
  of_request Kind.findRoutes (by decide) rfl rfl

theorem sweepRoutes (start : SlotIx) (count action : Nat) (sel : SelectorForm) (level : Option Int) : Statement (.sweepRoutes start count action sel level) :=
  of_request Kind.sweepRoutes (by decide) rfl rfl

theorem setInput (input : Nat) (fields : InputFields) : Statement (.setInput input fields) :=
  of_request Kind.setInput (by decide) rfl rfl

theorem readInput (input : Nat) : Statement (.readInput input) :=
  of_request Kind.readInput (by decide) rfl rfl

theorem setPrecinct (precinct : Nat) (maxnom lastOn : Option Nat) : Statement (.setPrecinct precinct maxnom lastOn) :=
  of_request Kind.setPrecinct (by decide) rfl rfl

theorem readPrecinct (precinct : Nat) : Statement (.readPrecinct precinct) :=
  of_request Kind.readPrecinct (by decide) rfl rfl

theorem setZone (zone : Nat) (fields : ZoneFields) : Statement (.setZone zone fields) :=
  of_request Kind.setZone (by decide) rfl rfl

theorem readZone (zone : Nat) : Statement (.readZone zone) :=
  of_request Kind.readZone (by decide) rfl rfl

theorem zoneLive (zone setting : Nat) : Statement (.zoneLive zone setting) :=
  of_request Kind.zoneLive (by decide) rfl rfl

theorem setGeometry (station zone distance : Nat) : Statement (.setGeometry station zone distance) :=
  of_request Kind.setGeometry (by decide) rfl rfl

theorem readGeometry (station zone : Nat) : Statement (.readGeometry station zone) :=
  of_request Kind.readGeometry (by decide) rfl rfl

theorem pinNotch (zone bin : Nat) (depth : Int) (width : Nat) : Statement (.pinNotch zone bin depth width) :=
  of_request Kind.pinNotch (by decide) rfl rfl

theorem dropNotch (zone slot : Nat) : Statement (.dropNotch zone slot) :=
  of_request Kind.dropNotch (by decide) rfl rfl

theorem readNotches (zone : Nat) : Statement (.readNotches zone) :=
  of_request Kind.readNotches (by decide) rfl rfl

theorem clearRing (zone : Nat) : Statement (.clearRing zone) :=
  of_request Kind.clearRing (by decide) rfl rfl

theorem setEq (preset : Nat) (bands : List BandForm) : Statement (.setEq preset bands) :=
  of_request Kind.setEq (by decide) rfl rfl

theorem readEq (preset : Nat) : Statement (.readEq preset) :=
  of_request Kind.readEq (by decide) rfl rfl

theorem setClock (setting : Nat) : Statement (.setClock setting) :=
  of_request Kind.setClock (by decide) rfl rfl

theorem readClock : Statement .readClock :=
  of_request Kind.readClock (by decide) rfl rfl

theorem notices : Statement .notices :=
  of_request Kind.notices (by decide) rfl rfl

theorem setNoticeMask (word : Word16) : Statement (.setNoticeMask word) :=
  of_request Kind.setNoticeMask (by decide) rfl rfl

theorem store : Statement .store :=
  of_request Kind.store (by decide) rfl rfl

theorem restart : Statement .restart :=
  of_request Kind.restart (by decide) rfl rfl

theorem unknownKindFrame (kind : Byte) (body : List Byte) : Statement (.unknownKindFrame kind body) :=
  of_event rfl rfl

theorem byteReceived (byte : Byte) : Statement (.byteReceived byte) :=
  of_event rfl rfl

theorem gapTimeout : Statement .gapTimeout :=
  of_event rfl rfl

theorem answerSent : Statement .answerSent :=
  of_event rfl rfl

theorem blockCompletion (gateFirst : Bool) (zonesFirst : Nat) : Statement (.blockCompletion gateFirst zonesFirst) :=
  of_event rfl rfl

theorem analysisFrameEnd : Statement .analysisFrameEnd :=
  of_event rfl rfl

theorem frameResult (zone : Nat) (levels : Unit) : Statement (.frameResult zone levels) :=
  of_event rfl rfl

theorem ampokLineChange (zone : Nat) (ok : Bool) : Statement (.ampokLineChange zone ok) :=
  of_event rfl rfl

theorem ampStatusDebounced (zone : Nat) : Statement (.ampStatusDebounced zone) :=
  of_event rfl rfl

theorem keyLineChange (key : Nat) (on : Bool) : Statement (.keyLineChange key on) :=
  of_event rfl rfl

theorem keyDebounced (key : Nat) : Statement (.keyDebounced key) :=
  of_event rfl rfl

theorem wakeTimerExpiry (zone : Nat) : Statement (.wakeTimerExpiry zone) :=
  of_event rfl rfl

theorem standbyTimerExpiry (zone : Nat) : Statement (.standbyTimerExpiry zone) :=
  of_event rfl rfl

theorem houseClockLost : Statement .houseClockLost :=
  of_event rfl rfl

theorem houseClockReturned : Statement .houseClockReturned :=
  of_event rfl rfl

theorem houseClockLock : Statement .houseClockLock :=
  of_event rfl rfl

theorem houseClockMove : Statement .houseClockMove :=
  of_event rfl rfl

theorem storeWriteDone : Statement .storeWriteDone :=
  of_event rfl rfl

theorem storeWriteFailed (left : FlashImage) : Statement (.storeWriteFailed left) :=
  of_event rfl rfl

theorem storeStageTimeout (left : FlashImage) : Statement (.storeStageTimeout left) :=
  of_event rfl rfl

theorem rstLLow : Statement .rstLLow :=
  of_event rfl rfl

theorem powerLoss : Statement .powerLoss :=
  of_event rfl rfl

theorem startUpSequence : Statement .startUpSequence :=
  of_event rfl rfl

theorem restartSequence : Statement .restartSequence :=
  of_event rfl rfl

theorem samplePeriod (ain : Table (Table SampleWord 8) 4) : Statement (.samplePeriod ain) :=
  of_event rfl rfl

end Sys2Proof.Laws.RequestFrame
end

