-- ==== Sys2Proof/Tests/Slice0.lean ====
section
/-! SUPPORT. Tests on small states: what WellFormed refuses, the manual's worked examples and tables, one step of each
family, and, for every statement with hypotheses, a state and operands that meet them. -/

namespace Sys2Proof.Tests

open Sys2Proof.Machine Sys2Proof.Safety

set_option Elab.async false

/-! ## WellFormed refuses an ill-formed term for each check -/

theorem test_wf_key_fits_a_byte : (Instr.readRoute (.key 256 1)).wellFormed = false := by decide
theorem test_wf_level_fits_two_bytes : (Instr.placeRoute 1 1 32768 none none none).wellFormed = false := by decide
theorem test_wf_stage_rate : (Instr.stageRoute (.slot 0) 0 { rate := some 256 }).wellFormed = false := by decide
theorem test_wf_label_is_text : (Instr.writeCue 1 (.define [0x1F] [])).wellFormed = false := by decide
theorem test_wf_entry_kind : (Instr.writeCue 1 (.define [] [.unknown 5])).wellFormed = false := by decide
theorem test_wf_entry_delay : (Instr.writeCue 1 (.define [] [.place 1 1 0 none none (some 65536)])).wellFormed = false := by
  decide
theorem test_wf_selector : (Instr.findRoutes 0 0 0 { cls := some 256 }).wellFormed = false := by decide
theorem test_wf_sweep_level_needed : (Instr.sweepRoutes 0 0 4 {} none).wellFormed = false := by decide
theorem test_wf_sweep_level_barred : (Instr.sweepRoutes 0 0 0 {} (some 0)).wellFormed = false := by decide
theorem test_wf_input_hold : (Instr.setInput 1 { hold := some 65536 }).wellFormed = false := by decide
theorem test_wf_precinct : (Instr.setPrecinct 1 (some 256) none).wellFormed = false := by decide
theorem test_wf_zone_release : (Instr.setZone 1 { release := some 65536 }).wellFormed = false := by decide
theorem test_wf_geometry : (Instr.setGeometry 1 1 65536).wellFormed = false := by decide
theorem test_wf_pin_bin : (Instr.pinNotch 1 65536 24 1).wellFormed = false := by decide
theorem test_wf_eq_band :
    (Instr.setEq 1 [{ kind := 0, frequency := 65536, gain := none, width := 1 }]).wellFormed = false := by decide
theorem test_wf_known_kind_is_known : (Instr.unknownKindFrame 0x05 []).wellFormed = false := by decide
theorem test_wf_no_zone_0 : (Instr.frameResult 0 ()).wellFormed = false := by decide
theorem test_wf_no_zone_25 : (Instr.ampokLineChange 25 true).wellFormed = false := by decide
theorem test_wf_no_key_17 : (Instr.keyDebounced 17).wellFormed = false := by decide

/-! ## States of the tests -/

/-- The state after a command; the state itself where the command stops. -/
def after (i : Instr) (s : State) : State :=
  match exec i s with
  | .next t => t
  | .fault _ => s
  | .refused _ => s

/-- The last answer handed to the transmitter. -/
def reply (s : State) : Option (Status × List Byte) :=
  s.port.answers.getLast?.map fun a => (a.status, a.body)

/-- A bank with no override. -/
def bank (level : Int) (rate : Nat) : Bank where
  level := level
  rate := rate
  preset := 0
  delay := none

/-- The pulpit route of the worked examples: input 3 into zone 7. -/
def pulpit (st : RouteState) (armed : Bool) : Route where
  input := 2
  zone := 6
  state := st
  armed := armed
  flip := false
  live := bank (-8) 4
  staged := bank (-8) 4
  current := -27
  target := -27
  delay := 4984
  limited := false

/-- The machine right after reset with one route in slot 0. -/
def oneRoute (r : Route) : State :=
  State.reset.setSlot 0 (some r)

/-- Zone 7 of a state with its live part replaced. -/
def zone7 (l : ZoneLive) (s : State) : State :=
  s.setZoneLive 6 l

/-- A zone live and ACTIVE, its enable asserted, with demand. -/
def awake : ZoneLive where
  power := .active
  ampEnabled := true
  controllerLive := true
  keyLive := false
  live := true
  demandPresent := true
  timer := .none

/-- Zone 7 in FAULT. -/
def faulted : State :=
  zone7 { awake with power := .fault, ampEnabled := false } (oneRoute (pulpit (.halted .controller) false))

/-- Zone 7 in runaway. -/
def runaway : State :=
  (oneRoute (pulpit (.halted .ring) false)).setRing 6 { Ring.quiet with margin := 48, runaway := true }

/-- A part whose sweep is in progress. -/
def scanning : State :=
  after (.sweepRoutes 0 0 1 {} none) State.reset

/-- A part held in power-on. -/
def held : State :=
  after .rstLLow State.reset

/-- A part that has kept these bytes of a frame. -/
def collecting (bytes : List Byte) : State :=
  State.reset.setPort (State.reset.port.collect bytes)

theorem reset_route? (k : SlotIx) : State.reset.route? k = none := by
  simp [State.reset, State.route?, RouteEngine.atStart]

theorem oneRoute_route? (r : Route) (k : SlotIx) : (oneRoute r).route? k = if 0 = k then some r else none := by
  have h := reset_route? k
  simp only [State.route?] at h
  simp [oneRoute, State.setSlot, State.route?, Table.get_set, h]

theorem oneRoute_distinct (r : Route) : DistinctKeys (oneRoute r) := by
  intro j k a b ha hb _ _
  simp only [oneRoute_route?] at ha hb
  split at ha <;> split at hb <;> simp_all

theorem oneRoute_ready (r : Route) : Ready (oneRoute r) :=
  ⟨rfl, rfl, rfl⟩

/-! ## The manual's tables and worked examples -/

/-- R42's table. -/
theorem test_coefficients :
    [-480, -479, -240, -80, -24, 0, 24, 48].map coefficient =
      [0, 2, 2097, 209715, 1051066, 2097152, 4184368, 8348912] := by
  decide +kernel

/-- R46's table. -/
theorem test_block_peaks :
    [8388608, 8388607, 4194304, 838861, 8389, 9, 8, 0].map blockPeak = [0, 0, -24, -80, -240, -478, -480, -480] := by
  decide +kernel

/-- R48 and the pulpit delay of 2.7. -/
theorem test_geometric_delays :
    geometricDelay 15000 300 = 22431 ∧ geometricDelay 0 100 = 480 ∧ geometricDelay 3150 120 = 4984 := by
  decide

/-- 2.5, one output sample: the rounded sums. -/
theorem test_round_bus :
    roundBus 421920400000 = 201187 ∧ roundBus 20921840000000 = 9976311 ∧ saturate 9976311 = 8388607 := by
  decide

/-- R38's table: first steps of its ramps, and a landing. -/
theorem test_ramp_steps :
    rampStep 4 (-40) (-27) = -36 ∧ rampStep 16 48 (-480) = 32 ∧ rampStep 0 (-27) (-480) = -480
      ∧ rampStep 16 (-467) (-480) = -480 := by
  decide

/-- 2.2, three evaluations: zone 7 ACTIVE with trim −4, duck 48 and margin 8; input 3 LEAD, AUTO and OPEN with trim +12,
one of three on its list. -/
def evaluated (level : Int) (open' : Bool) : Int × Bool :=
  let s := oneRoute { pulpit .steady false with live := bank level 4 }
  let s := s.setInputSettings 2 { factoryInput with cls := .lead, mode := .auto, trim := 12, closedAtt := 60 }
  let s := (s.setZoneSettings 6 { factoryZone with trim := -4 }).setZoneLive 6 awake
  let s := s.setRing 6 { Ring.quiet with margin := 8 }
  let gates : GateUnit :=
    { inputs := s.gates.inputs.modify 2 fun g => if open' then { g with gate := .opened } else g
      lists := s.gates.lists.set 0 (if open' then [0, 2, 4] else [0, 1, 4]) }
  let s := s.setGates gates
  s.evalTarget { pulpit .steady false with live := bank level 4 }

theorem test_three_evaluations : evaluated (-8) true = (-27, false) ∧ evaluated (-470) false = (-480, false) := by
  decide +kernel

/-- The quire of chapter 6: inputs 9, 10 (CHOIR), 13 (SPOKEN), 16 (LEAD), AUTO in precinct 2 with hold 4. -/
def quire : WorkingCopy :=
  let choir : InputSettings := { factoryInput with cls := .choir, mode := .auto, precinct := 1, hold := 4 }
  { factoryDefaults with
    inputs :=
      (((factoryDefaults.inputs.set 8 choir).set 9 choir).set 12 { choir with cls := .spoken }).set 15
        { choir with cls := .lead }
    precincts := factoryDefaults.precincts.set 1 { maxnom := 2, lastOn := true } }

/-- The block peaks of inputs 9, 10, 13 and 16. -/
def quirePeaks (a b c d : Int) : Table Int 32 :=
  ((((Table.fill 32 OFF).set 8 a).set 9 b).set 12 c).set 15 d

/-- The gate unit with the members of precinct 2 as given, each with its gate and counter. -/
def quireGates (members : List (InputIx × GateState × Nat)) : GateUnit :=
  { inputs :=
      members.foldl (fun t m => t.set m.1 { gate := m.2.1, counter := m.2.2, peak := OFF }) GateUnit.atStart.inputs
    lists := GateUnit.atStart.lists.set 1 (members.map (·.1)) }

/-- Completion 2: the older chorister loses its place to the lectern. -/
theorem test_quire_victim :
    (gateWork (quirePeaks (-150) (-165) (-120) (-300)) quire (quireGates [(8, .opened, 0), (9, .opened, 0)])).lists.get 1 =
      [9, 12] := by
  decide +kernel

/-- Completion 14: both holds run out and LAST-ON keeps the later member, in HOLD at 0. -/
theorem test_quire_last_on :
    let g := gateWork (quirePeaks (-250) (-300) (-300) (-250)) quire (quireGates [(15, .hold, 1), (8, .hold, 1)])
    g.lists.get 1 = [8] ∧ (g.inputs.get 8).gate = .hold ∧ (g.inputs.get 8).counter = 0
      ∧ (g.inputs.get 15).gate = .closed := by
  decide +kernel

/-- Completion 16: the kept member is no longer alone, and closes. -/
theorem test_quire_release :
    (gateWork (quirePeaks (-250) (-300) (-150) (-300)) quire (quireGates [(8, .hold, 0)])).lists.get 1 = [12] := by
  decide +kernel

/-- The ARM-ROUTE frame of 10.5 and its answer. -/
theorem test_arm_frames :
    frameOf [0x05, 0, 0, 0] = [0x7E, 0x04, 0x05, 0, 0, 0, 0xF7]
      ∧ ({ kind := 0x05, status := .ok, body := [0, 0] } : Answer).frame = [0x7E, 0x04, 0x05, 0, 0, 0, 0xF7]
      ∧ parseBody 0x05 [0, 0, 0] = some (.armRoute (.slot 0)) := by
  decide

/-- Chapter 3, the flip that moves the delay: completion 1 puts slot 0 into DIPPING toward 5,200. -/
theorem test_flip_moves_delay :
    let r := { pulpit .steady true with staged := { bank (-16) 8 with delay := some 5200 } }
    let t := flipStep (oneRoute r)
    t.route? 0 =
        some
          { r with
            live := r.staged, staged := r.live, armed := false, flip := true, state := .dipping 5200 }
      ∧ t.port.notices.getLsbD 0 = true := by
  decide +kernel

/-- Chapter 8, the path to runaway: confirmations 1 (a DYNAMIC notch in slot 1), 5 (60 to 72), 6 (a margin step) and 18
(runaway). -/
def ringing (depth : Int) (margin : Nat) : Ring :=
  { Ring.quiet with
    notches :=
      [{ slot := 0, kind := .fixed 3, bin := 110, depth := 24, sinceHit := 0, fresh := false },
       { slot := 1, kind := .dynamic, bin := 43, depth := depth, sinceHit := 2, fresh := false }]
    candidate := some 43
    count := 2
    margin := margin }

theorem test_path_to_runaway :
    (({ ringing 24 0 with notches := (ringing 24 0).notches.take 1 } : Ring).answer 43).ring.notches.map
        (fun n => (n.slot, n.bin, n.depth)) = [(0, 110, 24), (1, 43, 24)]
      ∧ (((ringing 60 0).frameOutcome factoryZone (some 43)).ring.notches.map Notch.depth = [24, 72])
      ∧ ((ringing 72 0).frameOutcome factoryZone (some 43)).ring.margin = 4
      ∧ ((ringing 72 48).frameOutcome factoryZone (some 43)).runaway = true := by
  decide

/-- R159: a notch not hit gives 12 back at its release time. -/
theorem test_notch_release :
    ageNotch 1406 none { slot := 1, kind := .dynamic, bin := 43, depth := 72, sinceHit := 1405, fresh := false } =
        some { slot := 1, kind := .dynamic, bin := 43, depth := 60, sinceHit := 0, fresh := false }
      ∧ ageNotch 1406 none { slot := 1, kind := .dynamic, bin := 43, depth := 12, sinceHit := 1405, fresh := false } =
        none := by
  decide

/-! ## One step of each family -/

/-- A placement after reset: slot 0, silent, at the delay of R48's default (480 samples). -/
theorem test_place :
    let t := after (.placeRoute 1 1 (-40) none none none) State.reset
    reply t = some (.ok, [0])
      ∧ t.route? 0 =
        some
          { input := 0, zone := 0, state := .ramping, armed := false, flip := false, live := bank (-40) 8
            staged := bank (-40) 8, current := -480, target := -480, delay := 480, limited := false } := by
  decide +kernel

/-- R19: HALT-ROUTE keeps the current and disarms. -/
theorem test_halt :
    (after (.haltRoute (.slot 0)) (oneRoute (pulpit .steady true))).route? 0 =
      some (pulpit (.halted .controller) false) := by
  decide +kernel

/-- R14, R67: a route cleared while its due delay (480) is not its delay in use dips. -/
theorem test_clear_dips :
    (after (.clearRoute (.key 3 7)) (oneRoute (pulpit (.halted .controller) false))).route? 0 =
      some (pulpit (.dipping 480) false) := by
  decide +kernel

/-- R56: ARM-ROUTE on a DIPPING route is BUSY, with the slot and the flip indicator. -/
theorem test_arm_dipping :
    reply (after (.armRoute (.slot 0)) (oneRoute (pulpit (.dipping 5) false))) = some (.busy, [0, 0]) := by
  decide +kernel

/-- R77: FIRE-CUE answers the queue's length after it. -/
theorem test_fire : reply (after (.fireCue 0) State.reset) = some (.ok, [0, 2]) := by
  decide +kernel

/-- R77: an undefined cue is refused. -/
theorem test_fire_undefined : reply (after (.fireCue 5) State.reset) = some (.noCue, []) := by
  decide +kernel

/-- R74: a queued cue is not rewritten. -/
theorem test_write_queued : reply (after (.writeCue 0 (.define [] [])) State.reset) = some (.busy, []) := by
  decide +kernel

/-- R98, R101: a find over one slot that does not match ends EXHAUSTED, at the next slot with none remaining. -/
theorem test_find_exhausted :
    reply (scanStep (after (.findRoutes 7 1 0 { state := some 1 }) State.reset)) = some (.exhausted, [8, 0, 0]) := by
  decide +kernel

/-- R117: an input taken out of AUTO leaves its list. -/
theorem test_set_input_leaves_list :
    let s := (State.reset.setInputSettings 8 (quire.inputs.get 8)).setGates (quireGates [(8, .opened, 0)])
    (after (.setInput 9 { mode := some 1 }) s).listOf 1 = [] := by
  decide +kernel

/-- R122: a lowered MAXNOM closes the larger class number first. -/
theorem test_set_precinct_closes :
    let s := (State.reset.setWorking quire).setGates (quireGates [(15, .opened, 0), (8, .opened, 0)])
    (after (.setPrecinct 2 (some 1) none) s).listOf 1 = [15] := by
  decide +kernel

/-- R130: ZONE-LIVE answers the live condition after the change. -/
theorem test_zone_live :
    let t := after (.zoneLive 7 1) State.reset
    reply t = some (.ok, [1]) ∧ (t.zoneLive 6).live = true := by
  decide +kernel

/-- R133: demand wakes a zone in STANDBY; factory wake time 2.0 s is 96,000 sample periods. -/
theorem test_demand_wakes :
    let t := State.reset.takeCount 6 0 1
    (t.zoneLive 6).power = .waking ∧ (t.zoneLive 6).ampEnabled = true ∧ (t.zoneLive 6).timer = .wake 96000 := by
  decide +kernel

/-- R134: an expiry with the status OK makes the zone ACTIVE. -/
theorem test_wake_expires :
    ((after (.wakeTimerExpiry 7) (zone7 { awake with power := .waking, timer := .wake 0 } State.reset)).zoneLive 6).power =
      .active := by
  decide +kernel

/-- R137, R138: a debounced fault of an ACTIVE zone halts its routes. -/
theorem test_fault_halts :
    let s := zone7 awake (oneRoute (pulpit .steady false))
    let s := s.setAmp 6 { raw := false, settled := true, count := some 4800 }
    let t := after (.ampStatusDebounced 7) s
    (t.zoneLive 6).power = .fault ∧ t.route? 0 = some (pulpit (.halted .zoneFault) false)
      ∧ t.port.notices = 0x1830 := by
  decide +kernel

/-- R129: a line that returns before its debounce time abandons the count. -/
theorem test_line_returns :
    ((after (.ampokLineChange 7 true) (after (.ampokLineChange 7 false) State.reset)).power.amps.get 6).count = none := by
  decide +kernel

/-- R128: a debounced key makes the zone that names it live. -/
theorem test_key_makes_live :
    let s := State.reset.setZoneSettings 6 { factoryZone with key := some 3 }
    let s := s.setKey 3 { raw := true, settled := false, count := some 2400 }
    ((after (.keyDebounced 4) s).zoneLive 6).live = true := by
  decide +kernel

/-- R161: a pin takes the lowest free slot, and the working copy holds it. -/
theorem test_pin :
    let t := after (.pinNotch 7 110 24 3) State.reset
    reply t = some (.ok, [0])
      ∧ (t.store.working.notches.get 6).get 0 = some { bin := 110, depth := 24, width := 3 } := by
  decide +kernel

/-- R171: a band with gain 0 leaves the samples unchanged, and silence stays silence. -/
theorem test_flat_band (m : FilterMemory) (x : Int) :
    (runBand { kind := .peak, frequency := 1000, gain := some 0, width := 10 } m x).2 = x := by
  unfold runBand
  split
  · next h => exact h.2.symm
  · rfl

/-- The input lanes carrying one sample, everything else 0. -/
def oneSample (lane : Fin 4) (channel : Fin 8) (x : SampleWord) : Table (Table SampleWord 8) 4 :=
  (Table.fill 4 (Table.fill 8 0)).set lane ((Table.fill 8 0).set channel x)

/-- R168, R169: a sample enters its line and its peak; channel 1 of AIN 2 carries input 9. -/
theorem test_sample_enters :
    let t := after (.samplePeriod (oneSample 1 0 0x800000)) State.reset
    lineAt (t.signal.lines.get 8) 0 = -8388608 ∧ t.signal.peaks.get 8 = 8388608 ∧ t.signal.peaks.get 1 = 0 := by
  decide +kernel

/-- R168: zone 24 goes out on channel 8 of AOUT 3. -/
theorem test_lane_of_zone :
    (State.reset.setSignal { State.reset.signal with outputs := State.reset.signal.outputs.set 23 (-1) }).aout 2 7 =
      0xFFFFFF := by
  decide +kernel

/-- R179: FOLLOW without the house clock is FALLBACK (code 2). -/
theorem test_set_clock : reply (after (.setClock 1) State.reset) = some (.ok, [2]) := by
  decide +kernel

/-- R183, R185: the last byte of an ARM-ROUTE frame on an empty table are answered NO-ROUTE. -/
theorem test_bytes_make_request :
    let s := collecting [0x04, 0x05, 0, 0, 0]
    reply (after (.byteReceived 0xF7) s) = some (.noRoute, [])
      ∧ reply (after (.byteReceived 0xF6) s) = some (.badFrame, []) := by
  decide +kernel

/-- R183: a LENGTH of 251 starts a discard. -/
theorem test_long_length :
    (after (.byteReceived 0xFB) (after (.byteReceived 0x7E) State.reset)).port.phase = .discarding := by
  decide +kernel

/-- R185: a KIND in no table. -/
theorem test_unknown_kind : reply (after (.unknownKindFrame 0x7F []) State.reset) = some (.unknown, []) := by
  decide +kernel

/-- R190, R192: after a start-up from an erased flash, DEFAULTS and RESTARTED are set; the read clears them. -/
theorem test_notices :
    let t := after .notices State.reset
    reply t = some (.ok, [0x18, 0, 0, 0]) ∧ t.port.notices = 0 ∧ t.port.attnLow = false := by
  decide +kernel

/-- R191: an unused bit is refused. -/
theorem test_mask_unused : reply (after (.setNoticeMask 0x2000) State.reset) = some (.range, []) := by
  decide +kernel

/-- R196: a second STORE finds the store WRITING. -/
theorem test_store_twice : reply (after .store (after .answerSent (after .store State.reset))) = some (.busy, []) := by
  decide +kernel

/-- R181: a request that comes while its answer is being sent is lost. -/
theorem test_lost_while_sending : after .notices (after .store State.reset) = after .store State.reset := by
  rfl

/-- R186, R201: the sequence follows only the RESTART's answer sent in full, and leaves RESTARTED alone set. -/
theorem test_restart :
    let s := after .restart State.reset
    after .restartSequence s = s ∧ (after .restartSequence (after .answerSent s)).port.notices = 0x1000 := by
  decide +kernel

/-- R22, R103: RST_L low abandons the scan. -/
theorem test_reset_abandons_scan : (after .rstLLow scanning).engine.scan = none := by
  decide +kernel

/-- R180, R26: the block under way keeps its taps and buses through a RESTART. -/
theorem test_restart_keeps_block (s : State) :
    (restart s).signal.taps = s.signal.taps ∧ (restart s).signal.buses = s.signal.buses :=
  ⟨rfl, rfl⟩

/-- R200: the start-up of a held part with an erased flash raises DEFAULTS and RESTARTED. -/
theorem test_start_up_of_erased_flash :
    (after .startUpSequence held).port.notices = 0x1800
      ∧ (after .startUpSequence held).store.working = factoryDefaults := by
  have h : held.store.flash = erasedFlash := rfl
  have e : after .startUpSequence held = startUp held := rfl
  rw [e]
  simp only [startUp, h, imageLoads_erased, loadedCopy_erased]
  exact ⟨by decide, rfl⟩

/-- The table spells no command (opcode_table.json gives no row any bits). -/
theorem test_no_word (nbits w : Nat) : decodeTableWord nbits w = none ∧ State.reset.withFetchWord nbits w = State.reset :=
  ⟨rfl, rfl⟩

/-! ## Hypotheses met

For every statement with hypotheses, a state and operands that meet them, clause by clause. -/

theorem test_meets_StepTakesFrontCommand : State.reset.pending = [] := rfl

theorem test_meets_BusyAnswersQueueInOrder :
    requestBody .notices = some (0x40, []) ∧ scanning.run = .running ∧ scanning.port.phase = .hunting
      ∧ scanning.port.driver = false ∧ scanning.port.inProgress = some { kind := 0x19, scan := true }
      ∧ held.run ≠ .running ∧ (collecting []).port.phase ≠ .hunting ∧ (after .store State.reset).port.driver = true := by
  decide +kernel

theorem test_meets_StoppedPartHoldsStill :
    held.run ≠ .running ∧ reachesStopped .notices = false ∧ reachesStopped (.byteReceived 0x7E) = false := by
  decide +kernel

/-- A last cue result. -/
def someResult : CueResult where
  cue := 63
  applied := 0
  skipped := 1
  firstSkip := some (0, .safe)

theorem test_meets_ReadsChangeNothing :
    Ready State.reset ∧ outside 32 0 ∧ outside 32 33 ∧ outside 4 5 ∧ outside 16 17 ∧ outside 24 25
      ∧ State.reset.engine.result = none
      ∧ Ready (State.reset.setEngine { State.reset.engine with result := some someResult })
      ∧ State.reset.cue? 0 = some { label := none, entries := [] } ∧ State.reset.cue? 63 = none :=
  ⟨⟨rfl, rfl, rfl⟩, .inl rfl, .inr (by decide), .inr (by decide), .inr (by decide), .inr (by decide), rfl, ⟨rfl, rfl, rfl⟩,
    by decide +kernel⟩

theorem test_meets_RouteImageLaidOut :
    Ready (oneRoute (pulpit .steady true))
      ∧ (oneRoute (pulpit .steady true)).findRoute (.slot 0) = .ok (0, pulpit .steady true) :=
  ⟨⟨rfl, rfl, rfl⟩, rfl⟩

theorem test_meets_RouteNamesFindRoutes :
    (oneRoute (pulpit .steady true)).route? 0 = some (pulpit .steady true)
      ∧ State.reset.route? 255 = none ∧ outside 32 33 ∧ outside 24 0
      ∧ DistinctKeys (oneRoute (pulpit .steady true))
      ∧ (∀ k r, State.reset.route? k = some r → ¬(r.input = 31 ∧ r.zone = 23))
      ∧ Ready State.reset ∧ State.reset.findRoute (.slot 255) = .error .noRoute
      ∧ State.reset.findRoute (.key 33 1) = .error .range :=
  ⟨rfl, rfl, .inr (by decide), .inl rfl, oneRoute_distinct _, by simp [reset_route?], ⟨rfl, rfl, rfl⟩, rfl, rfl⟩

/-- A part whose table is full of one record. -/
def full : State :=
  State.reset.setEngine { State.reset.engine with table := Table.fill 256 (some (pulpit .steady false)) }

theorem test_meets_PlacementMadeOrRefused :
    (Ready State.reset ∧ (State.reset.zoneLive 23).power ≠ .absent ∧ (State.reset.zoneLive 23).power ≠ .fault
      ∧ (State.reset.ringOf 23).runaway = false
      ∧ listens (State.reset.zoneSettings 23).listen (State.reset.inputSettings 31).precinct = true
      ∧ (∀ j r, State.reset.route? j = some r → ¬(r.input = 31 ∧ r.zone = 23))
      ∧ State.reset.route? 0 = none ∧ ∀ j : SlotIx, j < 0 → State.reset.route? j ≠ none)
    ∧ (outside 32 33 ∧ outside 24 25)
    ∧ (Ready faulted ∧ (faulted.zoneLive 6).power = .fault)
    ∧ (zone7 { awake with power := .absent } State.reset).zoneLive 6 = { awake with power := .absent }
    ∧ (Ready runaway ∧ (runaway.zoneLive 6).power ≠ .absent ∧ (runaway.zoneLive 6).power ≠ .fault
      ∧ (runaway.ringOf 6).runaway = true)
    ∧ listens (State.reset.zoneSettings 0).listen 3 = false
    ∧ (DistinctKeys (oneRoute (pulpit .retiring false))
      ∧ (oneRoute (pulpit .retiring false)).route? 0 = some (pulpit .retiring false))
    ∧ ∀ k, ∃ r, full.route? k = some r ∧ ¬(r.input = 31 ∧ r.zone = 23) :=
  ⟨⟨⟨rfl, rfl, rfl⟩, by decide +kernel, by decide +kernel, by decide +kernel, by decide +kernel, by simp [reset_route?],
      rfl, by simp⟩,
    ⟨.inr (by decide), .inr (by decide)⟩, ⟨⟨rfl, rfl, rfl⟩, by decide +kernel⟩, by decide +kernel,
    ⟨⟨rfl, rfl, rfl⟩, by decide +kernel⟩, by decide +kernel, ⟨oneRoute_distinct _, rfl⟩,
    fun k => ⟨pulpit .steady false, by simp [full, State.route?, State.setEngine], by decide⟩⟩

/-- One route in each of the states that the requests about one route tell apart, found by slot and by key. -/
theorem test_meets_route_by_state (st : RouteState) (armed : Bool) :
    Ready (oneRoute (pulpit st armed))
      ∧ (oneRoute (pulpit st armed)).findRoute (.slot 0) = .ok (0, pulpit st armed) ∧ (pulpit st armed).state = st
      ∧ (pulpit st armed).armed = armed :=
  ⟨⟨rfl, rfl, rfl⟩, rfl, rfl, rfl⟩

theorem test_meets_RetireRouteByState :
    Ready State.reset ∧ State.reset.findRoute (.slot 0) = .error .noRoute
      ∧ (pulpit .retiring false).state = .retiring ∧ (pulpit .steady true).state ≠ .retiring :=
  ⟨⟨rfl, rfl, rfl⟩, rfl, rfl, by decide⟩

theorem test_meets_StageRouteWritesStagedBank :
    Ready (oneRoute (pulpit .steady false))
      ∧ (({ preset := some 15, geometric := true } : StageFields).preset = (some 15 : Option PresetIx).map Fin.val)
      ∧ (({ delay := some 24000 } : StageFields).delay = some 24000)
      ∧ (oneRoute (pulpit .steady false)).findRoute (.slot 0) = .ok (0, pulpit .steady false)
      ∧ (pulpit .steady true).armed = true ∧ (pulpit .retiring false).state = .retiring :=
  ⟨⟨rfl, rfl, rfl⟩, rfl, rfl, rfl, rfl, rfl⟩

theorem test_meets_ArmRouteByState :
    Ready (oneRoute (pulpit (.dipping 0) false))
      ∧ (oneRoute (pulpit (.dipping 0) false)).findRoute (.key 3 7) = .ok (0, pulpit (.dipping 0) false)
      ∧ (oneRoute (pulpit (.halted .ring) true)).findRoute (.key 3 7) = .ok (0, pulpit (.halted .ring) true) := by
  refine ⟨⟨rfl, rfl, rfl⟩, ?_, ?_⟩ <;> rfl

theorem test_meets_HaltRouteByState :
    Ready (oneRoute (pulpit .ramping false))
      ∧ (oneRoute (pulpit .ramping false)).findRoute (.slot 0) = .ok (0, pulpit .ramping false) :=
  ⟨⟨rfl, rfl, rfl⟩, rfl⟩

theorem test_meets_ClearRouteByState :
    (Ready faulted ∧ faulted.findRoute (.slot 0) = .ok (0, pulpit (.halted .controller) false)
      ∧ (faulted.zoneLive 6).power = .fault)
    ∧ (Ready runaway ∧ runaway.findRoute (.slot 0) = .ok (0, pulpit (.halted .ring) false)
      ∧ (runaway.zoneLive 6).power ≠ .fault ∧ (runaway.ringOf 6).runaway = true)
    ∧ Ready (oneRoute (pulpit (.halted .ring) false))
    ∧ ((oneRoute (pulpit (.halted .ring) false)).zoneLive 6).power ≠ .fault
    ∧ ((oneRoute (pulpit (.halted .ring) false)).ringOf 6).runaway = false := by
  refine ⟨⟨⟨rfl, rfl, rfl⟩, rfl, ?_⟩, ⟨⟨rfl, rfl, rfl⟩, rfl, ?_⟩, ⟨rfl, rfl, rfl⟩, ?_⟩ <;> decide +kernel

/-- The entries of a small cue, and as they are stored. -/
def forms : List EntryForm :=
  [.place 32 24 100 (some 60) (some 15) none, .set 3 7 none none none none true, .retire 1 1, .zone 14 1, .notify]

def stored : List CueEntry :=
  [.place 31 23 48 (some 48) (some 15) none, .set 2 6 none none none .geometric, .retire 0 0, .zone 13 true, .notify]

theorem test_meets_WriteCueReplacesRecord :
    Ready State.reset ∧ all? cueEntry? forms = some stored ∧ (63 : CueIx) ∉ State.reset.engine.queue
      ∧ (0 : CueIx) ∈ State.reset.engine.queue
      ∧ (Ready (State.reset.setEngine { State.reset.engine with queue := [1] })
        ∧ (1 : CueIx) ∈ (State.reset.setEngine { State.reset.engine with queue := [1] }).engine.queue)
      ∧ cueEntry? (.zone 25 1) = none ∧ outside 32 33 ∧ outside 24 25 :=
  ⟨⟨rfl, rfl, rfl⟩, by decide, by decide +kernel, by decide +kernel, ⟨⟨rfl, rfl, rfl⟩, by decide⟩, by decide,
    .inr (by decide), .inr (by decide)⟩

theorem test_meets_FireCueQueuesDefinedCue :
    Ready State.reset ∧ State.reset.cue? 63 = none ∧ State.reset.cue? 0 ≠ none ∧ State.reset.engine.queue.length < 4
      ∧ 4 ≤ (State.reset.setEngine { State.reset.engine with queue := [0, 0, 0, 0] }).engine.queue.length :=
  ⟨⟨rfl, rfl, rfl⟩, by decide +kernel⟩

theorem test_meets_CueTakeWritesResult :
    (State.reset.setEngine { State.reset.engine with queue := [] }).engine.queue = []
      ∧ State.reset.engine.queue = [0] ∧ State.reset.cue? 0 = some { label := none, entries := [] }
      ∧ State.reset.applyEntry 0 (.zone 6 true) = .ok (State.reset, [(6, true)])
      ∧ (State.reset.setZoneSettings 6 { factoryZone with cueSafe := true }).applyEntry 0 (.zone 6 true) =
        .error .safe := by
  refine ⟨rfl, rfl, by decide +kernel, ?_, ?_⟩ <;> rfl

theorem test_meets_CueEntriesByTheirTables :
    ((State.reset.setZoneSettings 6 { factoryZone with cueSafe := true }).zoneSettings 6).cueSafe = true
      ∧ ((zone7 { awake with power := .absent } State.reset).zoneLive 6).power = .absent
      ∧ ((zone7 { awake with power := .absent } State.reset).zoneSettings 6).cueSafe = false
      ∧ (State.reset.zoneSettings 6).cueSafe = false ∧ (State.reset.zoneLive 6).power ≠ .absent
      ∧ (faulted.zoneSettings 6).cueSafe = false ∧ (faulted.zoneLive 6).power = .fault
      ∧ (runaway.zoneSettings 6).cueSafe = false ∧ (runaway.ringOf 6).runaway = true
      ∧ listens (State.reset.zoneSettings 6).listen 1 = false
      ∧ (oneRoute (pulpit .steady false)).route? 0 = some (pulpit .steady false) := by
  decide +kernel

theorem test_meets_CueEntriesByTheirTables_slots :
    State.reset.slotOfKey? 2 6 = none ∧ State.reset.lowestFree? = some 0 ∧ full.slotOfKey? 0 0 = none
      ∧ full.lowestFree? = none ∧ (oneRoute (pulpit .steady false)).slotOfKey? 2 6 = some 0 := by
  have hf : ∀ k, full.route? k = some (pulpit .steady false) := by simp [full, State.route?, State.setEngine]
  refine ⟨State.slotOfKey?_eq_none.mpr (by simp [reset_route?]),
    State.lowestFree?_eq_some.mpr ⟨reset_route? 0, by simp⟩, State.slotOfKey?_eq_none.mpr fun k r h => ?_,
    State.lowestFree?_eq_none.mpr (by simp [hf]), State.slotOfKey?_of_route (r := pulpit .steady false) (oneRoute_distinct _) rfl⟩
  rw [hf] at h
  cases h
  decide

theorem test_meets_ScansBeginOrAreRefused :
    Ready State.reset
      ∧ selector? { zone := some 24, cls := some 0 } =
        some
          { input := none, zone := some 23, precinct := none, cls := some .announce, state := none, armed := none
            cause := none, limited := none }
      ∧ selector? { zone := some 25 } = none ∧ findMode? 1 = some .stopOnMismatch
      ∧ sweepAction? 4 (some 100) = some (.level 48) ∧ sweepAction? 3 none = some .arm :=
  ⟨⟨rfl, rfl, rfl⟩, by decide⟩

/-- A scan of every slot from slot 250. -/
def aScan (job : ScanJob) : Scan where
  job := job
  selector :=
    { input := none, zone := none, precinct := none, cls := none, state := none, armed := none, cause := none
      limited := none }
  cursor := 250
  remaining := 256

theorem test_meets_ScanStepExaminesSixteen :
    (aScan (.sweep .halt false 0 0 none)).job = .sweep .halt false 0 0 none
      ∧ (aScan (.find .stopOnMatch)).job = .find .stopOnMatch
      ∧ scanning.engine.scan = some { aScan (.sweep .halt false 0 0 none) with cursor := 0 }
      ∧ (examine 16 State.reset (aScan (.sweep .halt false 0 0 none))).2.2 = .going
      ∧ (examine 16 State.reset { aScan (.find .stopOnMatch) with remaining := 16 }).2.2 = .ended .ok [250, 0, 15]
      ∧ State.reset.engine.scan = none := by
  decide +kernel

theorem test_meets_SweepActionsByState :
    (faulted.zoneLive (pulpit (.halted .zoneFault) false).zone).power = .fault
      ∧ (runaway.zoneLive (pulpit (.halted .ring) false).zone).power ≠ .fault
      ∧ (runaway.ringOf (pulpit (.halted .ring) false).zone).runaway = true
      ∧ (State.reset.zoneLive (pulpit (.halted .ring) false).zone).power ≠ .fault
      ∧ (State.reset.ringOf (pulpit (.halted .ring) false).zone).runaway = false
      ∧ (pulpit .retiring false).state = .retiring ∧ (pulpit (.dipping 9) false).armed = false := by
  decide +kernel

/-- A slot under a sweep's cursor: taken by the action, refused, not matching, FREE. -/
theorem test_meets_SweepActionsByState_slot :
    let s := oneRoute (pulpit .steady false)
    let sc := { aScan (.sweep .halt false 0 0 none) with cursor := 0 }
    s.route? sc.cursor = some (pulpit .steady false) ∧ s.slotMatches sc.selector (some (pulpit .steady false)) = true
      ∧ s.sweepRoute .halt (pulpit .steady false) = .ok (pulpit (.halted .controller) false)
      ∧ s.sweepRoute .halt (pulpit .retiring false) = .error .gone
      ∧ s.slotMatches { sc.selector with armed := some true } (some (pulpit .steady false)) = false
      ∧ s.route? 1 = none := by
  refine ⟨rfl, by decide, by rfl, by rfl, by decide, rfl⟩

theorem test_meets_SetInputEditsOneInput :
    Ready (oneRoute (pulpit .steady false))
      ∧ ({ cls := some 3, mode := some 2, precinct := some 4, station := some 16 } : InputFields).cls =
        (some .choir : Option InputClass).map classCode
      ∧ ({ cls := some 3, mode := some 2, precinct := some 4, station := some 16 } : InputFields).mode =
        (some .muted : Option InputMode).map modeCode
      ∧ ({ cls := some 3, mode := some 2, precinct := some 4, station := some 16 } : InputFields).precinct =
        (some 3 : Option PrecinctIx).map (fun p => p.1 + 1)
      ∧ ({ cls := some 3, mode := some 2, precinct := some 4, station := some 16 } : InputFields).station =
        (some 15 : Option StationIx).map (fun p => p.1 + 1)
      ∧ outside 32 33 ∧ outside 4 0 ∧ outside 16 17
      ∧ ((oneRoute (pulpit .steady false)).inputSettings 2).precinct ≠ 3
      ∧ ((oneRoute (pulpit .steady false)).inputSettings 2).mode = .muted :=
  ⟨⟨rfl, rfl, rfl⟩, rfl, rfl, rfl, rfl, .inr (by decide), .inl rfl, .inr (by decide), by decide +kernel,
    by decide +kernel⟩

/-- The quire with two members open. -/
def quireOpen : State :=
  (State.reset.setWorking quire).setGates (quireGates [(15, .opened, 0), (8, .hold, 1)])

theorem test_meets_SetPrecinctFitsTheList : Ready quireOpen ∧ (quireOpen.listOf 1).Nodup ∧ outside 4 5 ∧ 1 < 2 :=
  ⟨⟨rfl, rfl, rfl⟩, by decide +kernel, .inr (by decide), by decide⟩

theorem test_meets_GatesMoveByPeak :
    (∀ i, i ∈ (quireGates [(15, .hold, 1), (8, .hold, 1)]).lists.get 1 → (quire.inputs.get i).precinct = 1)
      ∧ (quire.precincts.get 1).lastOn = true
      ∧ ((quireGates [(15, .hold, 1), (8, .hold, 1)]).lists.get 1).Nodup
      ∧ (∀ i, i ∈ (quireGates [(15, .hold, 1), (8, .hold, 1)]).lists.get 1 →
        (moveInput (quire.inputs.get i) ((quireGates [(15, .hold, 1), (8, .hold, 1)]).inputs.get i)).2 = true)
      ∧ ((quireGates [(15, .hold, 1), (8, .hold, 1)]).lists.get 1).getLast? = some 8
      ∧ (15 : InputIx) ∈ (quireGates [(15, .hold, 1), (8, .hold, 1)]).lists.get 1 ∧ (15 : InputIx) ≠ 8
      ∧ (moveInput (quire.inputs.get 8) ((quireGates [(15, .hold, 1), (8, .opened, 0)]).inputs.get 8)).2 = false
      ∧ (moveInput (quire.inputs.get 15) ((quireGates [(15, .hold, 1), (8, .opened, 0)]).inputs.get 15)).2 = true
      ∧ (factoryDefaults.precincts.get 0).lastOn = false := by
  decide +kernel

/-- The gates of completion 2 with their block peaks, and its one candidate. -/
theorem test_meets_GatesMoveByPeak_candidates :
    let peaks := quirePeaks (-150) (-165) (-120) (-300)
    let g := quireGates [(8, .opened, 0), (9, .opened, 0)]
    let g1 : GateUnit :=
      { g with inputs := Table.zipWith (fun (l : GateLive) p => { l with peak := p }) g.inputs peaks }
    g1.lists = g.lists ∧ (∀ i, g1.inputs.get i = { g.inputs.get i with peak := peaks.get i })
      ∧ [(12 : InputIx)].Pairwise (· < ·)
      ∧ ∀ i, i ∈ [(12 : InputIx)] ↔ isCandidate (quire.inputs.get i) (g1.inputs.get i) = true := by
  decide +kernel

/-- A LAST-ON list of more than one member, and one of one. -/
theorem test_meets_CandidatesAdmittedByClass_release :
    (quire.precincts.get 1).lastOn = true
      ∧ 1 < ((quireGates [(8, .hold, 0), (12, .opened, 0)]).lists.get 1).length
      ∧ ((quireGates [(8, .hold, 0)]).lists.get 1).length ≤ 1 := by
  decide +kernel

theorem test_meets_CandidatesAdmittedByClass :
    (quire.inputs.get 12).precinct = 1
      ∧ ((quireGates [(8, .opened, 0)]).lists.get 1).length < (quire.precincts.get 1).maxnom
      ∧ (quire.precincts.get 1).maxnom ≤ ((quireGates [(15, .opened, 0), (8, .opened, 0)]).lists.get 1).length
      ∧ (quireGates [(15, .opened, 0), (8, .opened, 0)]).lists.get 1 = [15] ++ 8 :: []
      ∧ classOf quire 12 < classOf quire 8 ∧ classOf quire 15 < classOf quire 8 ∧ classOf quire 8 ≤ classOf quire 9 := by
  decide +kernel

theorem test_meets_ZoneLiveAndReadZone :
    Ready State.reset ∧ outside 24 0 ∧ outside 24 25 ∧ (State.reset.zoneLive 23).power ≠ .absent
      ∧ ((zone7 { awake with power := .absent } State.reset).zoneLive 6).power = .absent :=
  ⟨⟨rfl, rfl, rfl⟩, .inl rfl, .inr (by decide), by decide +kernel⟩

/-- A SET-ZONE that carries a field of every kind. -/
def zoneForm : ZoneFields where
  home := some 4
  listen := some 0x08
  standbyDelay := some 3601
  installLive := some 1
  key := some 16

theorem test_meets_SetZoneEditsOneZone :
    Ready (oneRoute (pulpit .steady false)) ∧ outside 24 25
      ∧ zoneForm.home = (some 3 : Option PrecinctIx).map (fun p => p.1 + 1)
      ∧ zoneForm.listen = (some 8 : Option (BitVec 4)).map (fun b => b.setWidth 8)
      ∧ zoneForm.installLive = (some true).map flagCode
      ∧ zoneForm.key = (some 15 : Option KeyIx).map (fun k => k.1 + 1) ∧ zoneForm.noKey = false
      ∧ ({ listen := some 0x10 } : ZoneFields).listen = some 0x10 ∧ 15 < (0x10 : Byte).toNat
      ∧ ((zone7 { awake with demandPresent := false, timer := .standby 5 } State.reset).zoneLive 6).timer =
        .standby 5 :=
  ⟨⟨rfl, rfl, rfl⟩, .inr (by decide), by decide +kernel⟩

theorem test_meets_SetGeometryReachesItsRoutes :
    Ready (oneRoute (pulpit .steady false)) ∧ outside 16 0 ∧ outside 24 25 ∧ (pulpit .steady false).state = .steady
      ∧ (pulpit (.dipping 0) false).state = .dipping 0 :=
  ⟨⟨rfl, rfl, rfl⟩, .inl rfl, .inr (by decide), rfl, rfl⟩

theorem test_meets_ZoneTimersAndFaults :
    (zone7 { awake with power := .waking, timer := .wake 0 } State.reset).run = .running
      ∧ ((zone7 { awake with power := .waking, timer := .wake 0 } State.reset).zoneLive 6) =
        { awake with power := .waking, timer := .wake 0 }
      ∧ (State.reset.power.amps.get 6).settled = true
      ∧ ((State.reset.setAmp 6 { raw := false, settled := false, count := none }).power.amps.get 6).settled = false
      ∧ ((zone7 { awake with demandPresent := false, timer := .standby 0 } State.reset).zoneLive 6) =
        { awake with demandPresent := false, timer := .standby 0 } := by
  decide +kernel

/-- Zone 7 with its status line away from the debounced value. -/
def ampAway (p : PowerState) (raw : Bool) : State :=
  (zone7 { awake with power := p } State.reset).setAmp 6 { raw := raw, settled := !raw, count := some 4800 }

theorem test_meets_LinesDebouncedAndTaken :
    State.reset.run = .running ∧ held.run ≠ .running
      ∧ ((ampAway .waking false).power.amps.get 6).count = some 4800
      ∧ ((ampAway .active false).zoneLive 6).power = .active
      ∧ ((ampAway .fault true).zoneLive 6).power = .fault ∧ ((ampAway .fault true).power.amps.get 6).raw = true
      ∧ ((ampAway .standby false).zoneLive 6).power = .standby
      ∧ ((State.reset.setKey 15 { raw := true, settled := false, count := some 2400 }).power.keys.get 15).count =
        some 2400
      ∧ (∀ n, (State.reset.power.amps.get 6).count = some n → n < 4800)
      ∧ ∀ n, ((State.reset.setKey 15 { raw := true, settled := false, count := some 2399 }).power.keys.get 15).count =
        some n → n < 2400 := by
  refine ⟨rfl, ?_⟩
  refine ⟨by decide +kernel, by decide +kernel, by decide +kernel, by decide +kernel, by decide +kernel,
    by decide +kernel, by decide +kernel, fun n h => ?_, fun n h => ?_⟩
  · cases (show (State.reset.power.amps.get 6).count = none by decide +kernel).symm.trans h
  · have e : ((State.reset.setKey 15 { raw := true, settled := false, count := some 2399 }).power.keys.get 15).count =
        some 2399 := by decide +kernel
    cases e.symm.trans h
    decide

/-- R129: a debounce before its time changes nothing. -/
theorem test_debounced_too_early :
    let s := State.reset.setAmp 6 { raw := false, settled := true, count := some 4799 }
    (after (.ampStatusDebounced 7) s).power.amps.get 6 = { raw := false, settled := true, count := some 4799 } := by
  decide +kernel

theorem test_meets_DemandMovesZones :
    (State.reset.zoneLive 6).power = .standby ∧ ((ampAway .active true).zoneLive 6).power = .active
      ∧ ((ampAway .waking true).zoneLive 6).power = .waking := by
  decide +kernel

/-- A part whose zone 7 holds the notches of a ring. -/
def withRing (r : Ring) : State :=
  State.reset.setRing 6 r

/-- Eight notches, the one in slot 3 as given and the others FIXED. -/
def eight (kind : NotchKind) : List Notch :=
  (List.finRange 8).map fun k =>
    { slot := k, kind := if k = 3 then kind else .fixed 3, bin := 10 + 10 * k.1, depth := 24, sinceHit := 0
      fresh := false }

theorem test_meets_PinNotchPlacesFixed :
    (Ready (withRing (ringing 24 0)) ∧ outside 24 25
      ∧ (((withRing (ringing 24 0)).ringOf 6).notches.map Notch.slot).Nodup)
    ∧ ((ringing 24 0).notches = (ringing 24 0).notches.take 1 ++
        { slot := 1, kind := .dynamic, bin := 43, depth := 24, sinceHit := 2, fresh := false } :: [])
    ∧ (∀ m, m ∈ (ringing 24 0).notches.take 1 → m.covers 44 = false)
    ∧ (∀ m, m ∈ (ringing 24 0).notches → m.covers 511 = false)
    ∧ (∀ m, m ∈ (ringing 24 0).notches → m.slot ≠ 2)
    ∧ (∀ j : NotchIx, j < 2 → ∃ m ∈ (ringing 24 0).notches, m.slot = j)
    ∧ (∀ k : NotchIx, ∃ m ∈ eight .dynamic, m.slot = k) ∧ (∀ m, m ∈ eight (.fixed 1) → m.kind ≠ .dynamic)
    ∧ (∀ m, m ∈ (eight .dynamic).take 3 → m.kind ≠ .dynamic)
    ∧ (eight .dynamic = (eight .dynamic).take 3 ++
        { slot := 3, kind := .dynamic, bin := 40, depth := 24, sinceHit := 0, fresh := false } ::
          (eight .dynamic).drop 4) := by
  refine ⟨⟨⟨rfl, rfl, rfl⟩, .inr (by decide), by decide +kernel⟩, ?_⟩
  decide

theorem test_meets_DropNotchAndClearRing :
    Ready (withRing (ringing 24 0)) ∧ outside 24 0
      ∧ (((withRing (ringing 24 0)).ringOf 6).notches.map Notch.slot).Nodup
      ∧ (∀ m, m ∈ ((withRing (ringing 24 0)).ringOf 6).notches → m.slot ≠ 7) :=
  ⟨⟨rfl, rfl, rfl⟩, .inl rfl, by decide +kernel⟩

theorem test_meets_CandidateIsTheHighestBin :
    (List.replicate 508 (-480) : List Int).length = 508
      ∧ candidate? 48 (List.replicate 507 (-480) ++ [0]) = some 511
      ∧ candidate? 48 ((0 : Int) :: List.replicate 507 (-480)) = some 4 := by
  decide +kernel

theorem test_meets_ConfirmationsAnswered :
    factoryZone.persistence ≤ ((ringing 24 0).persist (some 43)).count
      ∧ ((ringing 24 0).persist (some 50)).count < factoryZone.persistence
      ∧ ((ringing 24 0).notches.map Notch.slot).Nodup
      ∧ (ringing 24 0).runaway = false
      ∧ factoryZone.persistence ≤ (({ ringing 72 48 with runaway := true } : Ring).persist (some 43)).count
      ∧ ((eight .dynamic).map Notch.slot).Nodup ∧ (∀ m, m ∈ eight .dynamic → m.covers 500 = false) := by
  decide

theorem test_meets_NotchesReleaseAndMarginsRecover :
    ((ringing 24 0).persist none).count < factoryZone.persistence ∧ (ringing 24 0).runaway = false
      ∧ factoryZone.persistence ≤ ((ringing 24 0).persist (some 43)).count
      ∧ ¬(((ringing 24 0).answer 43).margin = true ∧ 48 ≤ (ringing 24 0).margin) := by
  decide

/-- Zone 7 with a frame due. -/
def frameDue (active : Bool) : State :=
  (zone7 awake State.reset).setFrame 6
    { active := true, samples := [], ended := [], due := some { active := active, samples := [1] } }

/-- A part `n` block completions into its analysis frames, zone 7 having one cut frame. -/
def framed (n : Nat) : State :=
  { State.reset.setFrame 6 { active := true, samples := [5], ended := [{ active := true, samples := [7] }], due := none } with
    ring :=
      { (State.reset.setFrame 6
          { active := true, samples := [5], ended := [{ active := true, samples := [7] }], due := none }).ring with
        blocks := some n } }

theorem test_meets_FramesCutAndJudged :
    (frameDue true).run = .running ∧ (framed 62).ring.blocks = some 62 ∧ 62 + 1 < 64
      ∧ (framed 63).ring.blocks = some 63 ∧ 64 ≤ 63 + 1
      ∧ ({ State.reset with ring := { State.reset.ring with blocks := none } } : State).ring.blocks = none
      ∧ ((framed 0).ring.frames.get 6).ended = [{ active := true, samples := [7] }]
      ∧ ((framed 0).ring.frames.get 6).due = none ∧ ((framed 0).ring.frames.get 5).ended = []
      ∧ ((frameDue true).ring.frames.get 6).due = some { active := true, samples := [1] }
      ∧ ((frameDue true).zoneLive 6).live = true ∧ ((frameDue true).zoneSettings 6).ringWatch = true
      ∧ ((frameDue false).ring.frames.get 6).due = some { active := false, samples := [1] } := by
  decide +kernel

/-- A frame whose samples are a full-scale sine at a bin's centre. -/
theorem test_meets_FramesCutAndJudged_tone :
    ∃ (x : Nat → Int) (f : FrameCapture), IsTone (43 * 23.4375) 8388608 0 x
      ∧ f.samples.reverse = (List.range 2048).map x :=
  have h : ∀ l : List Int, ∃ f : FrameCapture, f.samples.reverse = l := fun l =>
    ⟨{ active := true, samples := l.reverse }, List.reverse_reverse l⟩
  ⟨_, (h _).choose, fun _ => rfl, (h _).choose_spec⟩

/-- A frame of 2,048 samples within full scale, and its magnitude in a bin. -/
theorem test_meets_FramesCutAndJudged_transform (window : ℕ → ℝ) :
    ∃ (f : FrameCapture) (ideal : ℝ), f.samples.length = 2048 ∧ (∀ v, v ∈ f.samples → |(v : ℝ)| ≤ 8388608)
      ∧ IsMagnitude window (fun n => f.samples.reverse.getD n 0) 43 ideal :=
  have h : ∀ k, ∃ f : FrameCapture, f.samples.length = k ∧ ∀ v, v ∈ f.samples → |(v : ℝ)| ≤ 8388608 := fun k =>
    ⟨{ active := true, samples := List.replicate k 5 }, List.length_replicate, fun v hv => by
      rw [(List.mem_replicate.mp hv).2]; norm_num⟩
  ⟨_, _, (h 2048).choose_spec.1, (h 2048).choose_spec.2, rfl⟩

/-- A sine of half scale at a bin's centre. -/
theorem test_meets_FramesCutAndJudged_half :
    ∃ (x : Nat → Int) (f : FrameCapture), IsTone (43 * 23.4375) 4194304 0 x
      ∧ f.samples.reverse = (List.range 2048).map x :=
  have h : ∀ l : List Int, ∃ f : FrameCapture, f.samples.reverse = l := fun l =>
    ⟨{ active := true, samples := l.reverse }, List.reverse_reverse l⟩
  ⟨_, (h _).choose, fun _ => rfl, (h _).choose_spec⟩

/-- R152: the 64th completion cuts a frame, the 63rd none. -/
theorem test_frame_cut_at_64 :
    ((frameBlock (framed 63)).frames.get 6).ended =
        [{ active := true, samples := [7] }, { active := true, samples := [5] }]
      ∧ ((frameBlock (framed 62)).frames.get 6).ended = [{ active := true, samples := [7] }] := by
  decide +kernel

theorem test_meets_TargetGainByItsTerms :
    (pulpit .steady false).state = .steady ∧ (pulpit .steady false).live.level ≠ -480
      ∧ (((zone7 awake State.reset).setInputSettings 2 { factoryInput with mode := .fixed }).inputSettings 2).mode ≠
        .muted
      ∧ ((zone7 awake State.reset).zoneLive 6).live = true ∧ ((zone7 awake State.reset).zoneLive 6).power = .active
      ∧ (State.reset.inputSettings 2).mode = .muted := by
  decide +kernel

theorem test_meets_RouteStepsByState :
    (pulpit .steady false).state = .steady ∧ (pulpit (.dipping 24000) false).state = .dipping 24000
      ∧ (pulpit (.halted .zoneFault) false).state = .halted .zoneFault ∧ (pulpit .retiring false).state = .retiring := by
  decide

theorem test_meets_FlipExchangesBanks :
    (oneRoute (pulpit .steady true)).route? 0 = some (pulpit .steady true) ∧ (pulpit .steady true).armed = true
      ∧ (∀ k r, State.reset.route? k = some r → ¬(r.armed = true ∧ (r.state = .steady ∨ r.state = .ramping))) :=
  ⟨rfl, rfl, by simp [reset_route?]⟩

theorem test_meets_SetEqReplacesPreset :
    Ready State.reset ∧ outside 15 0 ∧ outside 15 16
      ∧ [({ kind := 0, frequency := 5, gain := none, width := 99 } : BandForm)].map eqBand? =
        [{ kind := .peak, frequency := 20, gain := some 0, width := 40 }].map some
      ∧ eqBand? { kind := 4, frequency := 100, gain := none, width := 1 } = none :=
  ⟨⟨rfl, rfl, rfl⟩, .inl rfl, .inr (by decide), by decide⟩

/-- A band of each kind with its gain, and two HIGH-PASS bands of one frequency. -/
theorem test_meets_SetEqReplacesPreset_bands :
    (∀ k : BandKind, k ≠ .highPass → ({ kind := k, frequency := 100, gain := some 12, width := 20 } : EqBand).InTable)
      ∧ (∀ w, w = 10 ∨ w = 20 → ({ kind := .highPass, frequency := 100, gain := none, width := w } : EqBand).InTable) := by
  constructor
  · intro k hk
    simp [EqBand.InTable, hk]
  · rintro w (rfl | rfl) <;> simp [EqBand.InTable]

/-- The ends of a width of two octaves about 100 Hz, and frequencies well below and well above; 20,000 Hz lies well above
a band whose width ends at 4,142 Hz; a width may end above 24,000 Hz. -/
theorem test_meets_SetEqReplacesPreset_width :
    ({ kind := .peak, frequency := 100, gain := some 12, width := 20 } : EqBand).Ends 50 200
      ∧ WellBelow 50 3 ∧ WellAbove 200 3200 ∧ WellAbove 4142 20000
      ∧ ({ kind := .lowShelf, frequency := 20000, gain := some 12, width := 40 } : EqBand).Ends 5000 80000 := by
  norm_num [EqBand.Ends, WellBelow, WellAbove, Real.rpow_neg]

/-- A part in whose block under way zone 7 forms a bus from one flat tap. -/
def sounding : State :=
  State.reset.setSignal
    { State.reset.signal with
      taps := State.reset.signal.taps.set 0 (some { input := 2, zone := 6, delay := 0, coeff := 2097152, bands := [] })
      buses := State.reset.signal.buses.set 6 (some []) }

theorem test_meets_SamplePeriodMovesEverySample :
    sounding.run = .running ∧ sounding.signal.buses.get 0 = none ∧ sounding.signal.buses.get 6 = some []
      ∧ sounding.signal.taps.get 0 = some { input := 2, zone := 6, delay := 0, coeff := 2097152, bands := [] }
      ∧ (after (.samplePeriod (oneSample 0 2 5)) sounding).signal.outputs.get 6 = 5
      ∧ ∀ (i : InputIx) (lane : Fin 4) (channel : Fin 8), i.1 = 8 * lane.1 + channel.1 →
        (inputSamples (oneSample 0 2 5)).get i = ((oneSample 0 2 5).get lane).get channel := by
  decide +kernel

theorem test_meets_BlockCompletionWorksInOrder :
    let s := (oneRoute (pulpit .steady true)).setEngine { (oneRoute (pulpit .steady true)).engine with queue := [] }
    s.run = .running ∧ s.engine.queue = [] ∧ s.engine.scan = none ∧ s.route? 1 = none
      ∧ ((ringing 24 0).notches.map Notch.slot).Nodup := by
  decide +kernel

/-- A part with a clock state. -/
def clocked (setting : ClockSetting) (status : ClockStatus) (source : ClockSource) (moving present : Bool) : State :=
  State.reset.setClock
    { setting := setting, status := status, source := source, moving := moving, present := present
      timePresent := if present then 48000 else 0 }

theorem test_meets_ClockFollowsHouseClock :
    Ready (clocked .follow .locked .house false true) ∧ (clocked .follow .locked .house false true).run = .running
      ∧ (clocked .follow .locked .house false true).signal.clock.status = .locked
      ∧ (clocked .follow .fallback .internal false true).signal.clock.status = .fallback
      ∧ (clocked .follow .fallback .internal false false).signal.clock.present = false
      ∧ (clocked .follow .locked .internal true true).signal.clock.moving = true
      ∧ (clocked .follow .locked .internal true true).signal.elapsed < 32
      ∧ 32 ≤ ((clocked .follow .locked .internal true true).setSignal
        { (clocked .follow .locked .internal true true).signal with elapsed := 32 }).signal.elapsed :=
  ⟨⟨rfl, rfl, rfl⟩, rfl, rfl, rfl, rfl, rfl, by decide, by decide⟩

/-- A part that is sending an answer. -/
def sending : State :=
  after .restart State.reset

theorem test_meets_BytesMakeFrames :
    State.reset.run = .running ∧ State.reset.port.driver = false ∧ State.reset.port.phase = .hunting
      ∧ (collecting []).port.phase = .collecting ∧ (collecting []).port.partFrame = []
      ∧ (collecting [1, 0x40]).port.partFrame = 1 :: [0x40] ∧ [(0x40 : Byte)].length = (1 : Byte).toNat
      ∧ (after (.byteReceived 0) (collecting [])).port.phase = .discarding
      ∧ sending.port.driver = true
      ∧ sending.port.answers = [{ kind := 0x49, status := .ok, body := [] }] := by
  decide +kernel

theorem test_meets_FramesCheckedInOrder :
    State.reset.run = .running ∧ State.reset.port.inProgress = none ∧ State.reset.port.phase = .hunting
      ∧ State.reset.port.driver = false ∧ scanning.port.inProgress = some { kind := 0x19, scan := true }
      ∧ byteSum [0x04, 0x05, 0, 0, 0, 0xF6] ≠ 0
      ∧ frameOf [0x05, 0, 0, 0] = 0x7E :: [0x04, 0x05, 0, 0, 0, 0xF7]
      ∧ (0x05 : Byte) ∈ knownKinds ∧ (0x7F : Byte) ∉ knownKinds ∧ parseBody 0x05 [2, 0, 0] = none
      ∧ parseBody 0x05 [0, 0, 0] = some (.armRoute (.slot 0)) := by
  decide

theorem test_meets_RequestRoundTrip :
    (Instr.setZone 24 zoneForm).wellFormed = true
      ∧ requestBody (.setZone 24 zoneForm) = some (0x28, [24, 0x03, 0x43, 4, 8, 0x0E, 0x11, 1, 16])
      ∧ parseBody 0x28 [24, 0x03, 0x43, 4, 8, 0x0E, 0x11, 1, 16] = some (.setZone 24 zoneForm) := by
  decide

theorem test_meets_NoticesReadAndMasked :
    Ready State.reset ∧ 8192 ≤ (0x2000 : Word16).toNat ∧ (0x1FFF : Word16).toNat < 8192
      ∧ scanning.run = .running ∧ scanning.port.phase = .hunting ∧ scanning.port.driver = false
      ∧ scanning.port.inProgress = some { kind := 0x19, scan := true } :=
  ⟨⟨rfl, rfl, rfl⟩, by decide, by decide, by decide +kernel⟩

theorem test_meets_StoreWritesItsSnapshot :
    Ready State.reset ∧ State.reset.store.writing = none
      ∧ (after .store State.reset).run = .running
      ∧ (after .store State.reset).store.writing = some factoryDefaults :=
  ⟨⟨rfl, rfl, rfl⟩, rfl, rfl, rfl⟩

/-- A part held in power-on whose flash holds the factory installation. -/
def heldStored : State :=
  held.setStore { held.store with flash := imageOf factoryDefaults }

theorem test_meets_StartUpSetsThePart :
    (held.run ≠ .running ∧ held.store.flash = erasedFlash ∧ held.pending = []
      ∧ (∀ z, (held.power.amps.get z).raw = true) ∧ (∀ k, (held.power.keys.get k).raw = false))
    ∧ imageLoads held.store.flash = false
    ∧ (heldStored.run ≠ .running ∧ imageLoads heldStored.store.flash = true)
    ∧ snapshotAcceptable (snapshotOf factoryDefaults) = true ∧ State.reset.run = .running := by
  have h : snapshotAcceptable (snapshotOf factoryDefaults) = true := by decide +kernel
  exact ⟨⟨by decide, rfl, rfl, by decide +kernel, by decide +kernel⟩, imageLoads_erased,
    ⟨by decide, (imageLoads_written factoryDefaults).trans h⟩, h, rfl⟩

theorem test_meets_RestartKeepsTheInstallation :
    Ready State.reset ∧ State.reset.port.restart ≠ .due ∧ (after .answerSent sending).port.restart = .due
      ∧ Ready (after .answerSent sending) :=
  ⟨⟨rfl, rfl, rfl⟩, by decide, by decide +kernel, ⟨rfl, rfl, rfl⟩⟩

/-- A part at work: the pulpit route sounding into zone 7, which is ACTIVE with demand and holds a pinned notch. -/
def working : State :=
  let s := zone7 awake (oneRoute (pulpit .steady true))
  let s := s.setEngine { s.engine with demand := s.engine.demand.set 6 1 }
  s.setNotches 6 [pinned 110 24 3 false 0]

theorem working_route {k : SlotIx} {r : Route} (h : working.route? k = some r) : r = pulpit .steady true := by
  have e : working.route? k = (oneRoute (pulpit .steady true)).route? k := rfl
  rw [e, oneRoute_route?] at h
  split at h <;> simp_all

theorem test_meets_RouteLawsKept :
    step working = .next working ∧ DistinctKeys working ∧ ArmedRoutesCanFlip working ∧ RoutesListened working
      ∧ BarredZonesSilent working := by
  refine ⟨rfl, fun j k a b ha hb h1 h2 => oneRoute_distinct (pulpit .steady true) j k a b ha hb h1 h2, ?_, ?_, ?_⟩
  · intro k r h _
    rw [working_route h]
    exact ⟨by decide, by intro c; cases c <;> decide⟩
  · intro k r h _
    rw [working_route h]
    decide +kernel
  · intro k r h
    rw [working_route h]
    refine ⟨by decide +kernel, fun h => absurd h (by decide +kernel)⟩

theorem test_meets_RangesKept :
    step working = .next working ∧ GainsInRange working ∧ DelaysInLine working := by
  refine ⟨rfl, ⟨fun k r h => ?_, by decide +kernel⟩, fun k r h => ?_, by decide +kernel, by decide +kernel⟩
  · rw [working_route h]
    simp [gainInRange, pulpit, bank]
  · rw [working_route h]
    simp [delaysInRange, pulpit, bank]

theorem working_cue {c : CueIx} {v : Cue} (h : working.cue? c = some v) : v = { label := none, entries := [] } := by
  have e : ∀ c, working.cue? c = none ∨ working.cue? c = some { label := none, entries := [] } := by decide +kernel
  rcases e c with e | e <;> rw [e] at h <;> simp_all

theorem test_meets_ListsAndQueueKept :
    step quireOpen = .next quireOpen ∧ OpenListsTrue quireOpen ∧ QueueOfDefinedCues quireOpen := by
  refine ⟨rfl, ⟨by decide +kernel, by decide +kernel, by decide +kernel⟩, by decide +kernel, by decide +kernel,
    by decide +kernel⟩

theorem test_meets_ZoneLawsKept :
    step working = .next working ∧ ZonesTrue working ∧ HomesListened working := by
  refine ⟨rfl, fun z => ⟨?_, ?_, ?_, ?_, ?_⟩, ?_⟩
  · revert z; unfold enableTrue; decide +kernel
  · have h : ∀ z, (working.zoneLive z = awake ∨ working.zoneLive z = ZoneLive.resting) := by decide +kernel
    rcases h z with h | h <;> rw [h] <;> simp [timerTrue, awake, ZoneLive.resting]
  · revert z; unfold liveTrue; decide +kernel
  · revert z; decide +kernel
  · revert z; decide +kernel
  · unfold HomesListened; decide +kernel

theorem working_notches (z : ZoneIx) :
    (working.ringOf z).notches = if z = 6 then [pinned 110 24 3 false 0] else [] := by
  revert z; decide +kernel

theorem test_meets_RingLawsKept : step working = .next working ∧ NotchesTrue working ∧ MarginsTrue working := by
  refine ⟨rfl, fun z => ⟨?_, ?_, ?_⟩, ?_⟩
  · rw [working_notches]
    split <;> simp
  · intro n hn
    rw [working_notches] at hn
    split at hn <;> simp_all [notchInRange, pinned]
  · revert z; decide +kernel
  · unfold MarginsTrue; decide +kernel

theorem test_meets_SignalAndLineLawsKept :
    step working = .next working ∧ SamplesTrue working ∧ ClockTrue working ∧ FramingTrue working ∧ ScanTrue working
      ∧ AnswersFew working ∧ AttentionTrue working := by
  refine ⟨rfl, ⟨by decide +kernel, by decide +kernel⟩, ?_, ⟨?_, ?_, ?_, ?_⟩, by unfold ScanTrue; decide +kernel,
    by unfold AnswersFew; decide +kernel, by unfold AttentionTrue; decide +kernel⟩
  · unfold ClockTrue; decide +kernel
  · decide +kernel
  · decide +kernel
  · intro b bs h
    have : working.port.partFrame = [] := by decide +kernel
    simp_all
  · decide +kernel

theorem test_meets_InstallationKeptInRange : step working = .next working ∧ InstallationInRange working := by
  refine ⟨rfl, by decide +kernel, fun c v h => ?_, by decide +kernel, fun z n hn => ?_⟩
  · rw [working_cue h]
    decide
  · rw [working_notches] at hn
    split at hn
    · rw [List.mem_singleton.mp hn]
      rintro w ⟨⟩
      decide
    · simp at hn

theorem test_meets_StoredInstallationReturns :
    Ready working ∧ working.store.writing = none ∧ InstallationInRange working ∧ HomesListened working
      ∧ NotchesTrue working ∧ working.cue? 0 ≠ none :=
  ⟨⟨rfl, rfl, rfl⟩, rfl, test_meets_InstallationKeptInRange.2, test_meets_ZoneLawsKept.2.2, test_meets_RingLawsKept.2.1,
    by decide +kernel⟩

end Sys2Proof.Tests
end

namespace Sys2Proof.Machine
open Sys2Proof.Safety

/-! ## Inversion of the shared operations -/

/-- Every request row of the table is its owner's meaning behind the port. -/
theorem exec_of_ownerOf {i : Instr} {owner : State → State × Reply} (h : ownerOf i = some owner) :
    ∃ kind, ∀ s, exec i s = .next (onRequest kind owner s) := by
  cases i <;> cases h <;> exact ⟨_, fun _ => rfl⟩

/-- A zone refuses no placement exactly where it is neither in FAULT nor in runaway and listens to the input (R7). -/
theorem State.zoneRefusal_eq_none {s : State} {i : InputIx} {z : ZoneIx} :
    s.zoneRefusal i z = none ↔
      (s.zoneLive z).power ≠ .fault ∧ (s.ringOf z).runaway = false
      ∧ listens (s.zoneSettings z).listen (s.inputSettings i).precinct = true := by
  unfold State.zoneRefusal
  split
  · simp_all
  · split
    · simp_all
    · split <;> simp_all

theorem stageArmRefusal_eq_none {r : Route} :
    stageArmRefusal r = none ↔ (r.state = .steady ∨ r.state = .ramping) ∧ r.armed = false := by
  unfold stageArmRefusal
  split <;> simp_all

theorem armRefusal_eq_none {r : Route} : armRefusal r = none ↔ r.state = .steady ∨ r.state = .ramping := by
  unfold armRefusal
  split <;> simp_all

theorem isHalted_iff {st : RouteState} : isHalted st = true ↔ ∃ c, st = .halted c := by
  cases st <;> simp [isHalted]

/-- A CLEAR that is taken leaves a route as it is, or releases a HALTED one whose zone is in neither FAULT nor
runaway (R66). -/
theorem State.cleared_ok {s : State} {r r' : Route} (h : s.cleared r = .ok r') :
    r' = r ∨ ((s.zoneLive r.zone).power ≠ .fault ∧ (s.ringOf r.zone).runaway = false
      ∧ (∃ c, r.state = .halted c) ∧ r' = release (s.dueOf r) r) := by
  unfold State.cleared at h
  split at h
  · next hh =>
    split at h
    · simp at h
    · next hp =>
      split at h
      · simp at h
      · next hr => exact .inr ⟨hp, by simpa using hr, isHalted_iff.mp hh, by simpa using h.symm⟩
  · exact .inl (by simpa using h.symm)

theorem State.cueRestage_ok {s t : State} {k : SlotIx} {edit : Route → Route} (h : s.cueRestage k edit = .ok t) :
    ∃ r, s.route? k = some r ∧ stageArmRefusal r = none ∧ t = s.setSlot k (some (edit r)) := by
  unfold State.cueRestage at h
  split at h
  · simp at h
  · next r hr =>
    split at h
    · simp at h
    · next ha => exact ⟨r, hr, ha, by simpa using h.symm⟩

/-- A PLACE entry that is applied stages and arms the route of a held key, or makes one in the lowest FREE slot
(R81, R82). -/
theorem State.cuePlace_ok {s t : State} {i : InputIx} {z : ZoneIx} {level : Int} {rate : Option Nat}
    {preset : Option PresetIx} {delay : Option Nat} (h : s.cuePlace i z level rate preset delay = .ok t) :
    s.zoneRefusal i z = none
    ∧ ((∃ k edit, s.cueRestage k (stageArm (some level) rate preset edit) = .ok t)
      ∨ ∃ k, s.slotOfKey? i z = none ∧ s.lowestFree? = some k
        ∧ t = s.placeAt k i z (placementBank level rate preset delay)) := by
  unfold State.cuePlace at h
  split at h
  · simp at h
  · next hz _ => exact ⟨hz, .inl ⟨_, _, h⟩⟩
  · simp at h
  · next hz hk hf => exact ⟨hz, .inr ⟨_, hk, hf, by simpa using h.symm⟩⟩

theorem State.cueRetire_ok {s t : State} {i : InputIx} {z : ZoneIx} (h : s.cueRetire i z = .ok t) :
    ∃ k r, s.route? k = some r ∧ t = s.setSlot k (some (retire r)) := by
  unfold State.cueRetire at h
  split at h
  · simp at h
  · split at h
    · simp at h
    · next r hr =>
      split at h
      · simp at h
      · exact ⟨_, r, hr, by simpa using h.symm⟩

theorem State.inCueZone_ok {s t : State} {z : ZoneIx} {act : Except Status State} (h : s.inCueZone z act = .ok t) :
    (s.zoneSettings z).cueSafe = false ∧ (s.zoneLive z).power ≠ .absent ∧ act = .ok t := by
  unfold State.inCueZone at h
  split at h
  · simp at h
  · next hz =>
    unfold State.cueZoneRefusal at hz
    split at hz
    · simp at hz
    · split at hz <;> simp_all

theorem exceptMap_eq_ok {ε α β : Type} {f : α → β} {x : Except ε α} {b : β} (h : x.map f = .ok b) :
    ∃ a, x = .ok a ∧ b = f a := by
  cases x with
  | error _ => simp [Except.map] at h
  | ok a => exact ⟨a, rfl, by simpa [Except.map] using h.symm⟩

/-- Everything an applied cue entry can do to the part: restage and arm one route, make one, retire one, hand on a
change without touching anything, or raise NOTIFY (R80 to R86). -/
theorem State.applyEntry_ok {s t : State} {c : CueIx} {e : CueEntry} {hs : List Handed}
    (h : s.applyEntry c e = .ok (t, hs)) :
    (∃ k level rate preset delay, s.cueRestage k (stageArm level rate preset delay) = .ok t)
    ∨ (∃ k i z b, (s.zoneLive z).power ≠ .absent ∧ s.zoneRefusal i z = none ∧ s.slotOfKey? i z = none
        ∧ s.lowestFree? = some k ∧ t = s.placeAt k i z b)
    ∨ (∃ k r, s.route? k = some r ∧ t = s.setSlot k (some (retire r)))
    ∨ t = s
    ∨ t = (s.setPort { s.port with lastNotify := some c }).raise .notify := by
  cases e with
  | place i z level rate preset delay =>
    obtain ⟨u, hu, he⟩ := exceptMap_eq_ok h
    obtain ⟨rfl, -⟩ := Prod.mk.inj he
    obtain ⟨-, hp, ha⟩ := State.inCueZone_ok hu
    obtain ⟨hz, ⟨k, edit, hr⟩ | ⟨k, hk, hf, e⟩⟩ := State.cuePlace_ok ha
    · exact .inl ⟨k, _, _, _, _, hr⟩
    · exact .inr (.inl ⟨k, i, z, _, hp, hz, hk, hf, e⟩)
  | set i z level rate preset delay =>
    obtain ⟨u, hu, he⟩ := exceptMap_eq_ok h
    obtain ⟨rfl, -⟩ := Prod.mk.inj he
    obtain ⟨-, -, ha⟩ := State.inCueZone_ok hu
    split at ha
    · simp at ha
    · exact .inl ⟨_, _, _, _, _, ha⟩
  | retire i z =>
    obtain ⟨u, hu, he⟩ := exceptMap_eq_ok h
    obtain ⟨rfl, -⟩ := Prod.mk.inj he
    obtain ⟨-, -, ha⟩ := State.inCueZone_ok hu
    exact .inr (.inr (.inl (State.cueRetire_ok ha)))
  | zone z on =>
    obtain ⟨u, hu, he⟩ := exceptMap_eq_ok h
    obtain ⟨rfl, -⟩ := Prod.mk.inj he
    obtain ⟨-, -, ha⟩ := State.inCueZone_ok hu
    exact .inr (.inr (.inr (.inl (by simpa using ha.symm))))
  | notify =>
    obtain ⟨e, -⟩ := Prod.mk.inj (Except.ok.inj h)
    exact .inr (.inr (.inr (.inr e.symm)))

/-- What each applied entry keeps, a run of entries keeps. -/
theorem applyEntries_induct {R : State → State → Prop} {c : CueIx} (refl : ∀ s, R s s)
    (trans : ∀ s t u, R s t → R t u → R s u)
    (entry : ∀ s e t hs, s.applyEntry c e = .ok (t, hs) → R s t) (n : Nat) (es : List CueEntry) (s : State)
    (so : TakeSoFar) : R s (applyEntries c n es s so).1 := by
  induction es generalizing n s so with
  | nil => exact refl s
  | cons e es ih =>
    unfold applyEntries
    split
    · next h => exact trans _ _ _ (entry _ _ _ _ h) (ih _ _ _)
    · exact ih _ _ _

/-- What each action of a sweep keeps, the examining of any number of slots keeps. -/
theorem examine_induct {R : State → State → Prop} (refl : ∀ s, R s s) (trans : ∀ s t u, R s t → R t u → R s u)
    (action : ∀ s k r r' act, s.route? k = some r → s.sweepRoute act r = .ok r' → R s (s.setSlot k (some r')))
    (n : Nat) (s : State) (sc : Scan) : R s (examine n s sc).1 := by
  have slot : ∀ s act (sc : Scan), R s (s.sweepSlot act sc).1 := by
    intro s act sc
    unfold State.sweepSlot
    split
    · next r hr =>
      split
      · cases ho : s.sweepRoute act r with
        | ok r' => exact action s _ r r' act hr ho
        | error st => exact refl s
      · exact refl s
    · exact refl s
  induction n generalizing s sc with
  | zero => exact refl s
  | succ n ih =>
    unfold examine
    split
    · exact refl s
    · split
      · split
        · exact refl s
        · exact ih _ _
      · exact trans _ _ _ (slot s _ sc) (ih _ _)

/-- A sweep's action on a route: retired, halted, cleared, armed, staged and armed, or left (R99, R100). -/
theorem State.sweepRoute_ok {s : State} {act : SweepAction} {r r' : Route} (h : s.sweepRoute act r = .ok r') :
    r' = retire r ∨ r' = halt .controller r ∨ s.cleared r = .ok r' ∨ r' = r
    ∨ ((r.state = .steady ∨ r.state = .ramping)
      ∧ (r' = { r with armed := true } ∨ ∃ v, r' = stageArm (some v) none none .keep r)) := by
  unfold State.sweepRoute at h
  split at h
  · split at h
    · simp at h
    · exact .inl (by simpa using h.symm)
  · split at h
    · simp at h
    · exact .inr (.inl (by simpa using h.symm))
  · exact .inr (.inr (.inl h))
  · split at h
    · exact .inr (.inr (.inr (.inl (by simpa using h.symm))))
    · split at h
      · simp at h
      · next ha => exact .inr (.inr (.inr (.inr ⟨armRefusal_eq_none.mp ha, .inl (by simpa using h.symm)⟩)))
  · split at h
    · simp at h
    · next ha =>
      exact .inr (.inr (.inr (.inr ⟨(stageArmRefusal_eq_none.mp ha).1, .inr ⟨_, by simpa using h.symm⟩⟩)))

end Sys2Proof.Machine

namespace Sys2Proof.Machine
open Sys2Proof.Safety

/-! ## The laws of the route table, route by route

Three of the four laws speak of one record at a time: `Route.armSound`, `State.heard` and `State.silentIfBarred` are
what they say of it. A step that makes no record keeps all four laws once every record it leaves comes from the record
that the same slot held before, with its key and with what the three say of it (`RoutesFollow`). Only a placement makes
a record (`State.placeAt_lawsKept`). -/

/-- RETIRING or HALTED: the states a barred zone allows (R21). -/
def silent (st : RouteState) : Prop :=
  st = .retiring ∨ ∃ c, st = .halted c

/-- The sixth law of one record (R57). -/
def Route.armSound (r : Route) : Prop :=
  r.armed = true → r.state ≠ .retiring ∧ ∀ c, r.state ≠ .halted c

/-- The fourth law of one record (R18). -/
def State.heard (s : State) (r : Route) : Prop :=
  r.state ≠ .retiring → listens (s.zoneSettings r.zone).listen (s.inputSettings r.input).precinct = true

/-- The tenth law of one record, with R142 (R21). -/
def State.silentIfBarred (s : State) (r : Route) : Prop :=
  (s.zoneLive r.zone).power ≠ .absent
  ∧ ((s.zoneLive r.zone).power = .fault ∨ (s.ringOf r.zone).runaway = true → silent r.state)

/-- The record `r'` of `t` keeps the key and the laws of the record `r` of `s`. -/
structure Follows (s t : State) (r r' : Route) : Prop where
  input : r'.input = r.input
  zone : r'.zone = r.zone
  armSound : r.armSound → r'.armSound
  heard : s.heard r → t.heard r'
  barred : s.silentIfBarred r → t.silentIfBarred r'

/-- Every record of `t` follows the record that its slot held in `s`. -/
def RoutesFollow (s t : State) : Prop :=
  ∀ k r', t.route? k = some r' → ∃ r, s.route? k = some r ∧ Follows s t r r'

/-- The laws of the route table pass from `s` to `t`. -/
def LawsKept (s t : State) : Prop :=
  (DistinctKeys s → DistinctKeys t)
  ∧ (ArmedRoutesCanFlip s → ArmedRoutesCanFlip t)
  ∧ (RoutesListened s → RoutesListened t)
  ∧ (BarredZonesSilent s → BarredZonesSilent t)

theorem LawsKept.refl (s : State) : LawsKept s s :=
  ⟨id, id, id, id⟩

theorem LawsKept.trans {s t u : State} (h : LawsKept s t) (g : LawsKept t u) : LawsKept s u := by
  obtain ⟨hk, ha, hl, hb⟩ := h
  obtain ⟨gk, ga, gl, gb⟩ := g
  exact ⟨gk ∘ hk, ga ∘ ha, gl ∘ hl, gb ∘ hb⟩

theorem RoutesFollow.lawsKept {s t : State} (h : RoutesFollow s t) : LawsKept s t := by
  refine ⟨fun hd j k a b ha hb hi hz => ?_, fun hs k r' hr' => ?_, fun hs k r' hr' => ?_, fun hs k r' hr' => ?_⟩
  · obtain ⟨a₀, ha₀, fa⟩ := h j a ha
    obtain ⟨b₀, hb₀, fb⟩ := h k b hb
    exact hd j k a₀ b₀ ha₀ hb₀ (by rw [← fa.input, ← fb.input, hi]) (by rw [← fa.zone, ← fb.zone, hz])
  all_goals obtain ⟨r, hr, f⟩ := h k r' hr'
  · exact f.armSound (hs k r hr)
  · exact f.heard (hs k r hr)
  · exact f.barred (hs k r hr)

/-- A part whose slots are all FREE has every law. -/
theorem LawsKept.of_free {s t : State} (h : ∀ k, t.route? k = none) : LawsKept s t :=
  RoutesFollow.lawsKept fun k r' hr' => by simp [h k] at hr'

/-! ## What surrounds the routes -/

/-- `t` bars no zone that `s` does not bar, and its zones listen to the inputs that those of `s` listen to. -/
structure NoStricter (s t : State) : Prop where
  listen : ∀ z, (t.zoneSettings z).listen = (s.zoneSettings z).listen
  precinct : ∀ i, (t.inputSettings i).precinct = (s.inputSettings i).precinct
  absent : ∀ z, (t.zoneLive z).power = .absent → (s.zoneLive z).power = .absent
  fault : ∀ z, (t.zoneLive z).power = .fault → (s.zoneLive z).power = .fault
  runaway : ∀ z, (t.ringOf z).runaway = true → (s.ringOf z).runaway = true

/-- What a step that knows nothing of the zone leaves of a record: its key, and a silent state silent. -/
structure Moved (r r' : Route) : Prop where
  input : r'.input = r.input
  zone : r'.zone = r.zone
  armSound : r.armSound → r'.armSound
  retiring : r.state = .retiring → r'.state = .retiring
  staysSilent : silent r.state → silent r'.state

theorem Moved.refl (r : Route) : Moved r r :=
  ⟨rfl, rfl, id, id, id⟩

theorem Moved.trans {a b c : Route} (h : Moved a b) (g : Moved b c) : Moved a c :=
  ⟨g.input.trans h.input, g.zone.trans h.zone, g.armSound ∘ h.armSound, g.retiring ∘ h.retiring,
    g.staysSilent ∘ h.staysSilent⟩

theorem Moved.follows {s t : State} {r r' : Route} (m : Moved r r') (n : NoStricter s t) : Follows s t r r' where
  input := m.input
  zone := m.zone
  armSound := m.armSound
  heard h hr' := by
    rw [m.zone, m.input, n.listen, n.precinct]
    exact h fun hr => hr' (m.retiring hr)
  barred h := by
    refine ⟨fun ha => h.1 (n.absent _ (m.zone ▸ ha)), fun hb => m.staysSilent (h.2 ?_)⟩
    rw [m.zone] at hb
    exact hb.imp (n.fault _) (n.runaway _)

/-- A change of the route table alone leaves what surrounds it. -/
theorem NoStricter.of_eq {s t : State} (store : t.store = s.store) (power : t.power = s.power)
    (ring : t.ring = s.ring) : NoStricter s t := by
  refine ⟨fun z => ?_, fun i => ?_, fun z => ?_, fun z => ?_, fun z => ?_⟩
  all_goals simp [State.zoneSettings, State.inputSettings, State.zoneLive, State.ringOf, store, power, ring]

theorem NoStricter.refl (s : State) : NoStricter s s :=
  NoStricter.of_eq rfl rfl rfl

theorem NoStricter.routesFollow {s t : State} (n : NoStricter s t)
    (h : ∀ k r', t.route? k = some r' → ∃ r, s.route? k = some r ∧ Moved r r') : RoutesFollow s t :=
  fun k r' hr' => by
    obtain ⟨r, hr, m⟩ := h k r' hr'
    exact ⟨r, hr, m.follows n⟩

/-- A step that leaves every record as it is and bars no further zone keeps the laws. -/
theorem NoStricter.lawsKept {s t : State} (n : NoStricter s t) (h : t.engine.table = s.engine.table) :
    LawsKept s t :=
  (n.routesFollow fun k r' hr' => ⟨r', by simpa [State.route?, h] using hr', Moved.refl r'⟩).lawsKept

/-- A step that leaves all that the laws speak of as it is keeps them. -/
theorem LawsKept.of_eq {s t : State} (table : t.engine.table = s.engine.table)
    (zones : t.store.working.zones = s.store.working.zones) (inputs : t.store.working.inputs = s.store.working.inputs)
    (power : t.power.zones = s.power.zones) (ring : t.ring.zones = s.ring.zones) : LawsKept s t := by
  refine NoStricter.lawsKept ⟨fun z => ?_, fun i => ?_, fun z => ?_, fun z => ?_, fun z => ?_⟩ table
  · simp [State.zoneSettings, zones]
  · simp [State.inputSettings, inputs]
  · simp [State.zoneLive, power]
  · simp [State.zoneLive, power]
  · simp [State.ringOf, ring]

/-- A step after which each zone is in the power state it was in, or in one that is neither ABSENT nor FAULT. -/
theorem LawsKept.of_power {s t : State} (table : t.engine.table = s.engine.table) (store : t.store = s.store)
    (ring : t.ring.zones = s.ring.zones)
    (power : ∀ z, (t.zoneLive z).power = (s.zoneLive z).power
      ∨ ((t.zoneLive z).power ≠ .absent ∧ (t.zoneLive z).power ≠ .fault)) : LawsKept s t :=
  NoStricter.lawsKept
    { listen := fun z => by simp [State.zoneSettings, store]
      precinct := fun i => by simp [State.inputSettings, store]
      absent := fun z h => (power z).elim (fun e => e ▸ h) fun e => absurd h e.1
      fault := fun z h => (power z).elim (fun e => e ▸ h) fun e => absurd h e.2
      runaway := fun z => by simp [State.ringOf, ring] }
    table

/-! ## The operations on one record -/

theorem Moved.of_retire (r : Route) : Moved r (retire r) := by
  by_cases h : r.state = .retiring
  · rw [show retire r = r by simp [retire, h]]
    exact Moved.refl r
  · rw [retire_eq r h]
    exact ⟨rfl, rfl, fun _ h => by simp at h, fun _ => rfl, fun _ => .inl rfl⟩

theorem Moved.of_halt (c : HaltCause) (r : Route) : Moved r (halt c r) := by
  unfold halt
  split
  case h_4 | h_5 => exact Moved.refl r
  all_goals
    next h =>
      exact ⟨rfl, rfl, fun _ h => by simp at h, fun e => by simp [e] at h, fun _ => .inr ⟨c, rfl⟩⟩

/-- A change of the fields that no law names, in a state that is neither RETIRING nor HALTED. -/
theorem Moved.of_sounding {r r' : Route} (h : ¬ silent r.state) (h' : ¬ silent r'.state)
    (input : r'.input = r.input) (zone : r'.zone = r.zone) : Moved r r' :=
  ⟨input, zone, fun _ _ => ⟨fun e => h' (.inl e), fun c e => h' (.inr ⟨c, e⟩)⟩, fun e => absurd (.inl e) h,
    fun e => absurd e h⟩

/-- A record whose state stays, and with it its arm. -/
theorem Moved.of_state {r r' : Route} (state : r'.state = r.state) (armed : r'.armed = r.armed)
    (input : r'.input = r.input) (zone : r'.zone = r.zone) : Moved r r' :=
  ⟨input, zone, fun h => by simpa [Route.armSound, state, armed] using h, fun e => state.trans e,
    fun e => by rwa [state]⟩

theorem not_silent_of {st : RouteState} (h : st = .steady ∨ st = .ramping ∨ ∃ d, st = .dipping d) : ¬ silent st := by
  rcases h with rfl | rfl | ⟨d, rfl⟩ <;> simp [silent]

theorem Moved.of_retap (due : Nat) (r : Route) : Moved r (retap due r) := by
  have dips (h : ¬ silent r.state) : Moved r { r with state := .dipping due } :=
    Moved.of_sounding h (not_silent_of (.inr (.inr ⟨due, rfl⟩))) rfl rfl
  unfold retap
  split
  · next h =>
    split
    · exact Moved.refl r
    · exact dips (not_silent_of (.inl h))
  · next h =>
    split
    · exact Moved.refl r
    · exact dips (not_silent_of (.inr (.inl h)))
  · next d h => exact dips (not_silent_of (.inr (.inr ⟨d, h⟩)))
  · exact Moved.refl r
  · exact Moved.refl r

/-- Arming and staging a STEADY or RAMPING route. -/
theorem Moved.of_arming {r r' : Route} (h : r.state = .steady ∨ r.state = .ramping) (state : r'.state = r.state)
    (input : r'.input = r.input) (zone : r'.zone = r.zone) : Moved r r' := by
  have : ¬ silent r.state := not_silent_of (h.elim .inl (.inr ∘ .inl))
  exact Moved.of_sounding this (by rwa [state]) input zone

theorem flips_iff {r : Route} : flips r = true ↔ r.armed = true ∧ (r.state = .steady ∨ r.state = .ramping) := by
  unfold flips
  split <;> simp_all

theorem Moved.of_flip (s : State) (r : Route) : Moved r (s.flipRoute r) := by
  unfold State.flipRoute
  split
  · next h =>
    exact (Moved.of_arming (flips_iff.mp h).2 rfl rfl rfl : Moved r (swapBanks r)).trans (Moved.of_retap _ _)
  · exact Moved.refl r

/-- Step 4 frees the slot of a RETIRING route, and moves every other. -/
theorem Moved.of_settle {due : Nat} {target : Int × Bool} {r r' : Route} (h : settleRoute due target r = some r') :
    Moved r r' := by
  unfold settleRoute at h
  dsimp only at h
  split at h
  · next e =>
    obtain rfl := Option.some.inj h
    refine Moved.of_sounding (not_silent_of (.inl e)) (not_silent_of ?_) rfl rfl
    dsimp only
    split <;> simp
  · next e =>
    obtain rfl := Option.some.inj h
    refine Moved.of_sounding (not_silent_of (.inr (.inl e))) (not_silent_of ?_) rfl rfl
    dsimp only
    split <;> simp
  · next d e =>
    split at h
    · obtain rfl := Option.some.inj h
      exact Moved.of_sounding (not_silent_of (.inr (.inr ⟨d, e⟩))) (not_silent_of (.inr (.inl rfl))) rfl rfl
    · obtain rfl := Option.some.inj h
      exact Moved.of_state rfl rfl rfl rfl
  · split at h
    · obtain rfl := Option.some.inj h
      exact Moved.of_state rfl rfl rfl rfl
    · obtain rfl := Option.some.inj h
      exact Moved.of_state rfl rfl rfl rfl
  · split at h
    · simp at h
    · obtain rfl := Option.some.inj h
      exact Moved.of_state rfl rfl rfl rfl

/-- A CLEAR releases no route of a barred zone (R66). -/
theorem Follows.of_cleared {s : State} {r r' : Route} (h : s.cleared r = .ok r') : Follows s s r r' := by
  obtain rfl | ⟨hf, hr, ⟨c, hc⟩, rfl⟩ := State.cleared_ok h
  · exact (Moved.refl r').follows (NoStricter.refl s)
  · refine ⟨rfl, rfl, fun ha harm => absurd hc ((ha harm).2 c), fun hh _ => hh (by simp [hc]), fun hb => ⟨hb.1, ?_⟩⟩
    rintro (e | e)
    · exact absurd e hf
    · exact absurd (hr.symm.trans e) (by decide)

/-! ## The operations on the table -/

/-- A slot takes a record that follows the one it held. -/
theorem State.setSlot_lawsKept {s : State} {k : SlotIx} {r r' : Route} (hr : s.route? k = some r)
    (h : Follows s s r r') : LawsKept s (s.setSlot k (some r')) := by
  refine RoutesFollow.lawsKept fun j q hq => ?_
  rw [State.setSlot_route?] at hq
  split at hq
  · next e =>
    subst e
    obtain rfl := Option.some.inj hq
    exact ⟨r, hr, h.1, h.2, h.3, h.4, h.5⟩
  · exact ⟨q, hq, (Moved.refl q).follows (NoStricter.of_eq rfl rfl rfl)⟩

theorem State.setSlot_moved {s : State} {k : SlotIx} {r r' : Route} (hr : s.route? k = some r) (h : Moved r r') :
    LawsKept s (s.setSlot k (some r')) :=
  State.setSlot_lawsKept hr (h.follows (NoStricter.refl s))

/-- Every record of the table moves. -/
theorem State.mapRoutes_lawsKept (s : State) {f : Route → Route} (h : ∀ r, Moved r (f r)) :
    LawsKept s (s.mapRoutes f) := by
  have around : NoStricter s (s.mapRoutes f) := .of_eq rfl rfl rfl
  refine (around.routesFollow fun k r' hr' => ?_).lawsKept
  rw [State.mapRoutes_route?] at hr'
  obtain ⟨r, hr, rfl⟩ := Option.map_eq_some_iff.mp hr'
  exact ⟨r, hr, h r⟩

theorem State.retapWhere_lawsKept (s : State) (p : Route → Bool) : LawsKept s (s.retapWhere p) :=
  s.mapRoutes_lawsKept fun r => by
    split
    · exact Moved.of_retap _ r
    · exact Moved.refl r

/-- A placement that its checks let through keeps the laws: its key is held by no record, its zone is neither ABSENT
nor barred, and listens to the input (R7, R81). -/
theorem State.placeAt_lawsKept {s : State} {k : SlotIx} {i : InputIx} {z : ZoneIx} {b : Bank}
    (absent : (s.zoneLive z).power ≠ .absent) (zone : s.zoneRefusal i z = none) (key : s.slotOfKey? i z = none) :
    LawsKept s (s.placeAt k i z b) := by
  obtain ⟨fault, runaway, listen⟩ := State.zoneRefusal_eq_none.mp zone
  have held : ∀ j r, (s.placeAt k i z b).route? j = some r → (j = k ∧ r = s.newRoute i z b) ∨ s.route? j = some r := by
    intro j r hr
    have e : (s.placeAt k i z b).route? j = (s.setSlot k (some (s.newRoute i z b))).route? j := rfl
    rw [e, State.setSlot_route?] at hr
    split at hr
    · next e => exact .inl ⟨e.symm, (Option.some.inj hr).symm⟩
    · exact .inr hr
  have fresh := State.slotOfKey?_eq_none.mp key
  refine ⟨fun hd p q a c ha hc hi hz => ?_, fun hs j r hr => ?_, fun hs j r hr => ?_, fun hs j r hr => ?_⟩
  · rcases held p a ha with ⟨hp, rfl⟩ | ha' <;> rcases held q c hc with ⟨hq, rfl⟩ | hc'
    · exact hp.trans hq.symm
    · exact absurd ⟨hi.symm, hz.symm⟩ (fresh q c hc')
    · exact absurd ⟨hi, hz⟩ (fresh p a ha')
    · exact hd p q a c ha' hc' hi hz
  · rcases held j r hr with ⟨rfl, rfl⟩ | hr
    · exact fun h => by simp [State.newRoute] at h
    · exact hs j r hr
  · rcases held j r hr with ⟨rfl, rfl⟩ | hr
    · exact fun _ => listen
    · exact hs j r hr
  · rcases held j r hr with ⟨rfl, rfl⟩ | hr
    · refine ⟨absent, ?_⟩
      rintro (e | e)
      · exact absurd e fault
      · exact absurd (runaway.symm.trans e) (by decide)
    · exact hs j r hr

/-- A retirement that takes every record the new settings no longer let a zone hear keeps the laws (R18). -/
theorem LawsKept.of_retireWhere {s t : State} {p : Route → Bool} (table : t.engine.table = s.engine.table)
    (power : t.power = s.power) (ring : t.ring = s.ring)
    (h : ∀ r, r.state ≠ .retiring → s.heard r → p r = false → t.heard r) : LawsKept s (t.retireWhere p) := by
  have route : ∀ k, t.route? k = s.route? k := fun k => by simp [State.route?, table]
  refine RoutesFollow.lawsKept fun k r' hr' => ?_
  rw [State.retireWhere_route?, route] at hr'
  obtain ⟨r, hr, e⟩ := Option.map_eq_some_iff.mp hr'
  have m : Moved r r' := by
    subst e
    split
    · exact Moved.of_retire r
    · exact Moved.refl r
  refine ⟨r, hr, m.input, m.zone, m.armSound, fun hh hst => ?_, fun hb => ?_⟩
  · subst e
    split at hst
    · exact absurd (retire_state r) hst
    · next hp =>
      rw [if_neg hp]
      exact h r hst hh (by simpa using hp) hst
  · refine ⟨?_, fun hb' => m.staysSilent (hb.2 ?_)⟩
    · rw [m.zone]
      simpa [State.zoneLive, State.retireWhere, power] using hb.1
    · rw [m.zone] at hb'
      simpa [State.zoneLive, State.ringOf, State.retireWhere, power, ring] using hb'

/-- A zone that becomes barred has every route into it halted in the same event (R21). -/
theorem LawsKept.of_haltZone {s t : State} {z : ZoneIx} {c : HaltCause} (table : t.engine.table = s.engine.table)
    (store : t.store = s.store) (absent : ∀ y, (t.zoneLive y).power = .absent → (s.zoneLive y).power = .absent)
    (power : ∀ y, y ≠ z → (t.zoneLive y).power = .fault → (s.zoneLive y).power = .fault)
    (ring : ∀ y, y ≠ z → (t.ringOf y).runaway = true → (s.ringOf y).runaway = true) :
    LawsKept s (t.haltZone z c) := by
  have route : ∀ k, t.route? k = s.route? k := fun k => by simp [State.route?, table]
  refine RoutesFollow.lawsKept fun k r' hr' => ?_
  rw [State.haltZone_route?, route] at hr'
  obtain ⟨r, hr, e⟩ := Option.map_eq_some_iff.mp hr'
  have m : Moved r r' := by
    subst e
    split
    · exact Moved.of_halt c r
    · exact Moved.refl r
  refine ⟨r, hr, m.input, m.zone, m.armSound, fun hh hst => ?_, fun hb => ⟨fun ha => ?_, fun hb' => ?_⟩⟩
  · rw [m.zone, m.input]
    simpa [State.heard, State.haltZone, State.zoneSettings, State.inputSettings, store] using
      hh fun e => hst (m.retiring e)
  · exact hb.1 (absent _ (m.zone ▸ ha))
  · by_cases hz : r.zone = z
    · subst e
      simpa [hz, silent] using halt_barred c r
    · refine m.staysSilent (hb.2 ?_)
      rw [m.zone] at hb'
      exact hb'.imp (power _ hz) (ring _ hz)

end Sys2Proof.Machine

namespace Sys2Proof.Machine
open Sys2Proof.Safety

/-! ## The requests keep the laws of the route table -/

theorem onRoute_lawsKept {act : SlotIx → Route → State → State × Reply}
    (h : ∀ k r s, s.route? k = some r → LawsKept s (act k r s).1) (name : RouteName) (s : State) :
    LawsKept s (onRoute name act s).1 := by
  unfold onRoute
  split
  · next hk => exact h _ _ s (State.findRoute_ok hk)
  · exact .refl s

theorem takePlaceRoute_lawsKept (input zone : Nat) (level : Int) (rate preset delay : Option Nat) (s : State) :
    LawsKept s (takePlaceRoute input zone level rate preset delay s).1 := by
  unfold takePlaceRoute
  split
  · split
    · exact .refl s
    · next ha =>
      split
      · exact .refl s
      · exact .refl s
      · exact .refl s
      · next hz hk _ => exact State.placeAt_lawsKept ha hz hk
  · exact .refl s

theorem takeReadRoute_lawsKept (name : RouteName) (s : State) : LawsKept s (takeReadRoute name s).1 :=
  onRoute_lawsKept (fun _ _ s _ => .refl s) name s

theorem takeRetireRoute_lawsKept (name : RouteName) (s : State) : LawsKept s (takeRetireRoute name s).1 := by
  refine onRoute_lawsKept (fun k r s hr => ?_) name s
  split
  · exact .refl s
  · exact State.setSlot_moved hr (.of_retire r)

theorem takeStageRoute_lawsKept (name : RouteName) (base : Nat) (f : StageFields) (s : State) :
    LawsKept s (takeStageRoute name base f s).1 := by
  unfold takeStageRoute
  split
  · refine onRoute_lawsKept (fun k r s hr => ?_) name s
    split
    · exact .refl s
    · split
      · exact .refl s
      · exact State.setSlot_moved hr (.of_state rfl rfl rfl rfl)
  · exact .refl s

theorem takeArmRoute_lawsKept (name : RouteName) (s : State) : LawsKept s (takeArmRoute name s).1 := by
  refine onRoute_lawsKept (fun k r s hr => ?_) name s
  split
  · exact .refl s
  · split
    · exact .refl s
    · next ha => exact State.setSlot_moved hr (.of_arming (armRefusal_eq_none.mp ha) rfl rfl rfl)

theorem takeHaltRoute_lawsKept (name : RouteName) (s : State) : LawsKept s (takeHaltRoute name s).1 := by
  refine onRoute_lawsKept (fun k r s hr => ?_) name s
  split
  · exact .refl s
  · exact State.setSlot_moved hr (.of_halt _ r)

theorem takeClearRoute_lawsKept (name : RouteName) (s : State) : LawsKept s (takeClearRoute name s).1 := by
  refine onRoute_lawsKept (fun k r s hr => ?_) name s
  split
  · next hc => exact State.setSlot_lawsKept hr (.of_cleared hc)
  · exact .refl s

/-- A change of the input settings with the retirements that go with it (R118). -/
theorem State.editInput_lawsKept (s : State) (i : InputIx) (new : InputSettings) : LawsKept s (s.editInput i new) := by
  have retired : LawsKept s
      (((s.setInputSettings i new).setGates (s.gates.inputEdited i (s.inputSettings i) new)).retireWhere
        (s.losesPrecinct i (s.inputSettings i) new)) := by
    refine .of_retireWhere rfl rfl rfl fun r hr hh hp _ => ?_
    have h := hh hr
    change listens (s.zoneSettings r.zone).listen ((s.setInputSettings i new).inputSettings r.input).precinct = true
    rw [State.setInputSettings_inputSettings]
    split
    · next e =>
      subst e
      by_cases hn : (s.inputSettings r.input).precinct = new.precinct
      · rwa [← hn]
      · simpa [State.losesPrecinct, hn] using hp
    · exact h
  unfold State.editInput
  dsimp only
  split
  · exact retired
  · exact retired.trans (State.retapWhere_lawsKept _ _)

theorem takeSetInput_lawsKept (input : Nat) (f : InputFields) (s : State) : LawsKept s (takeSetInput input f s).1 := by
  unfold takeSetInput
  split
  · exact .refl s
  · split
    · exact .refl s
    · exact s.editInput_lawsKept _ _

@[simp] theorem retime_power (old new : ZoneSettings) (l : ZoneLive) : (retime old new l).power = l.power := by
  unfold retime
  split
  · split
    · rfl
    · split <;> rfl
    · rfl
  · rfl

/-- A zone's live record changes, but not its power state. -/
theorem State.setZoneLive_lawsKept (s : State) {z : ZoneIx} {l : ZoneLive}
    (h : l.power = (s.zoneLive z).power ∨ (l.power ≠ .absent ∧ l.power ≠ .fault)) :
    LawsKept s (s.setZoneLive z l) := by
  refine .of_power rfl rfl rfl fun y => ?_
  rw [State.setZoneLive_zoneLive]
  split
  · next e => exact e ▸ h
  · exact .inl rfl

theorem State.setControllerLive_lawsKept (s : State) (z : ZoneIx) (on : Bool) :
    LawsKept s (s.setControllerLive z on) :=
  s.setZoneLive_lawsKept (.inl rfl)

/-- A change of the zone settings with the retirements that go with it (R145). -/
theorem State.editZone_lawsKept (s : State) (z : ZoneIx) (new : ZoneSettings) : LawsKept s (s.editZone z new) := by
  have retired : LawsKept s ((s.setZoneSettings z new).retireWhere (s.losesListen z (s.zoneSettings z) new)) := by
    refine .of_retireWhere rfl rfl rfl fun r hr hh hp _ => ?_
    have h := hh hr
    rw [State.setZoneSettings_zoneSettings, State.setZoneSettings_inputSettings]
    split
    · next e =>
      subst e
      simpa [State.losesListen, h] using hp
    · exact h
  unfold State.editZone
  dsimp only
  have tapped : LawsKept s
      (if (s.zoneSettings z).precedence = new.precedence then
        (s.setZoneSettings z new).retireWhere (s.losesListen z (s.zoneSettings z) new)
      else ((s.setZoneSettings z new).retireWhere (s.losesListen z (s.zoneSettings z) new)).retapWhere
        fun r => r.zone = z) := by
    split
    · exact retired
    · exact retired.trans (State.retapWhere_lawsKept _ _)
  refine tapped.trans (State.setZoneLive_lawsKept _ (.inl ?_))
  rw [retime_power]
  simp only [ZoneLive.refreshLive]
  split <;> rfl

theorem takeSetZone_lawsKept (zone : Nat) (f : ZoneFields) (s : State) : LawsKept s (takeSetZone zone f s).1 := by
  unfold takeSetZone
  split
  · exact .refl s
  · split
    · exact .refl s
    · exact s.editZone_lawsKept _ _

theorem takeZoneLive_lawsKept (zone setting : Nat) (s : State) : LawsKept s (takeZoneLive zone setting s).1 := by
  unfold takeZoneLive
  split
  · split
    · exact .refl s
    · exact s.setControllerLive_lawsKept _ _
  · exact .refl s

theorem takeSetGeometry_lawsKept (station zone distance : Nat) (s : State) :
    LawsKept s (takeSetGeometry station zone distance s).1 := by
  unfold takeSetGeometry
  split
  · next st z _ _ =>
    have written : LawsKept s (s.setDistance st z (clampDistance distance)) := .of_eq rfl rfl rfl rfl rfl
    exact written.trans (State.retapWhere_lawsKept _ _)
  · exact .refl s

/-- A ring whose runaway is not new. -/
theorem State.setRing_lawsKept (s : State) {z : ZoneIx} {v : Ring}
    (h : v.runaway = true → (s.ringOf z).runaway = true) : LawsKept s (s.setRing z v) := by
  refine NoStricter.lawsKept ⟨fun _ => rfl, fun _ => rfl, fun _ => id, fun _ => id, fun y => ?_⟩ rfl
  rw [State.setRing_ringOf]
  split
  · next e => exact e ▸ h
  · exact id

theorem State.setNotches_lawsKept (s : State) (z : ZoneIx) (ns : List Notch) : LawsKept s (s.setNotches z ns) :=
  (s.setRing_lawsKept (v := { s.ringOf z with notches := ns }) id).trans (.of_eq rfl rfl rfl rfl rfl)

theorem takePinNotch_lawsKept (zone bin : Nat) (depth : Int) (width : Nat) (s : State) :
    LawsKept s (takePinNotch zone bin depth width s).1 := by
  unfold takePinNotch
  split
  · exact .refl s
  · split
    · exact .refl s
    · split
      · exact s.setNotches_lawsKept _ _
      · exact .refl s

theorem takeDropNotch_lawsKept (zone slot : Nat) (s : State) : LawsKept s (takeDropNotch zone slot s).1 := by
  unfold takeDropNotch
  split
  · split
    · exact s.setNotches_lawsKept _ _
    · exact .refl s
  · exact .refl s

theorem takeClearRing_lawsKept (zone : Nat) (s : State) : LawsKept s (takeClearRing zone s).1 := by
  unfold takeClearRing
  split
  · exact .refl s
  · exact s.setRing_lawsKept fun h => by simp [Ring.cleared] at h

theorem takeWriteCue_lawsKept (cue : Nat) (form : CueForm) (s : State) : LawsKept s (takeWriteCue cue form s).1 := by
  have written : ∀ c v, LawsKept s (s.setCue c v) := fun _ _ => .of_eq rfl rfl rfl rfl rfl
  unfold takeWriteCue
  split
  · exact .refl s
  · split
    · exact .refl s
    · split
      · exact .refl s
      · exact written _ _
  · split
    · exact .refl s
    · split
      · exact .refl s
      · exact written _ _

/-- Every owner keeps the laws of the route table. -/
theorem ownerOf_lawsKept {i : Instr} {owner : State → State × Reply} (h : ownerOf i = some owner) (s : State) :
    LawsKept s (owner s).1 := by
  cases i <;> cases h
  case placeRoute => exact takePlaceRoute_lawsKept _ _ _ _ _ _ s
  case readRoute => exact takeReadRoute_lawsKept _ s
  case retireRoute => exact takeRetireRoute_lawsKept _ s
  case stageRoute => exact takeStageRoute_lawsKept _ _ _ s
  case armRoute => exact takeArmRoute_lawsKept _ s
  case haltRoute => exact takeHaltRoute_lawsKept _ s
  case clearRoute => exact takeClearRoute_lawsKept _ s
  case writeCue => exact takeWriteCue_lawsKept _ _ s
  case readCue =>
    unfold takeReadCue
    split
    · exact .refl s
    · split <;> exact .refl s
  case fireCue =>
    unfold takeFireCue
    split
    · exact .refl s
    · split
      · exact .refl s
      · split <;> exact .of_eq rfl rfl rfl rfl rfl
  case readCueQueue => exact .refl s
  case readCueResult => unfold takeReadCueResult; split <;> exact .of_eq rfl rfl rfl rfl rfl
  case findRoutes =>
    unfold takeFindRoutes
    split
    · split <;> exact .of_eq rfl rfl rfl rfl rfl
    · exact .refl s
  case sweepRoutes =>
    unfold takeSweepRoutes
    split
    · split <;> exact .of_eq rfl rfl rfl rfl rfl
    · exact .refl s
  case setInput => exact takeSetInput_lawsKept _ _ s
  case readInput => unfold takeReadInput; split <;> exact .of_eq rfl rfl rfl rfl rfl
  case setPrecinct => unfold takeSetPrecinct; split <;> exact .of_eq rfl rfl rfl rfl rfl
  case readPrecinct => unfold takeReadPrecinct; split <;> exact .of_eq rfl rfl rfl rfl rfl
  case setZone => exact takeSetZone_lawsKept _ _ s
  case readZone => unfold takeReadZone; split <;> exact .of_eq rfl rfl rfl rfl rfl
  case zoneLive => exact takeZoneLive_lawsKept _ _ s
  case setGeometry => exact takeSetGeometry_lawsKept _ _ _ s
  case readGeometry => unfold takeReadGeometry; split <;> exact .of_eq rfl rfl rfl rfl rfl
  case pinNotch => exact takePinNotch_lawsKept _ _ _ _ s
  case dropNotch => exact takeDropNotch_lawsKept _ _ s
  case readNotches => unfold takeReadNotches; split <;> exact .of_eq rfl rfl rfl rfl rfl
  case clearRing => exact takeClearRing_lawsKept _ s
  case setEq => unfold takeSetEq; split <;> exact .of_eq rfl rfl rfl rfl rfl
  case readEq => unfold takeReadEq; split <;> exact .of_eq rfl rfl rfl rfl rfl
  case setClock => unfold takeSetClock; split <;> exact .of_eq rfl rfl rfl rfl rfl
  case readClock => exact .of_eq rfl rfl rfl rfl rfl
  case notices => exact .of_eq rfl rfl rfl rfl rfl
  case setNoticeMask => unfold takeSetNoticeMask; split <;> exact .of_eq rfl rfl rfl rfl rfl
  case store => unfold takeStore; split <;> exact .of_eq rfl rfl rfl rfl rfl
  case restart => exact .of_eq rfl rfl rfl rfl rfl

/-! ## The port keeps the laws of the route table -/

theorem LawsKept.hand {s t : State} (h : LawsKept s t) (a : Answer) : LawsKept s (t.hand a) :=
  h.trans (.of_eq rfl rfl rfl rfl rfl)

theorem LawsKept.setPort {s t : State} (h : LawsKept s t) (p : Port) : LawsKept s (t.setPort p) :=
  h.trans (.of_eq rfl rfl rfl rfl rfl)

theorem LawsKept.raise {s t : State} (h : LawsKept s t) (n : Notice) : LawsKept s (t.raise n) :=
  h.trans (.of_eq rfl rfl rfl rfl rfl)

theorem LawsKept.raiseIf {s t : State} (h : LawsKept s t) (c : Bool) (n : Notice) : LawsKept s (t.raiseIf c n) := by
  cases c
  · exact h
  · exact h.raise n

theorem whenRunning_lawsKept {f : State → State} (h : ∀ s, LawsKept s (f s)) (s : State) :
    LawsKept s (whenRunning f s) := by
  unfold whenRunning
  split
  · exact h s
  · exact .refl s
  · exact .refl s

theorem onFrame_lawsKept {f : State → State} (h : ∀ s, LawsKept s (f s)) (s : State) : LawsKept s (onFrame f s) := by
  refine whenRunning_lawsKept (fun s => ?_) s
  split
  · exact h s
  · exact .refl s

theorem takeRequest_lawsKept {owner : State → State × Reply} (h : ∀ s, LawsKept s (owner s).1) (kind : Byte)
    (s : State) : LawsKept s (takeRequest kind owner s) := by
  unfold takeRequest
  split
  · exact (LawsKept.refl s).hand _
  · split
    · next t st body ho => exact LawsKept.hand (by simpa [ho] using h s) _
    · next t ho => exact LawsKept.setPort (by simpa [ho] using h s) _

theorem bodyOwner_lawsKept {kind : Byte} {body : List Byte} {owner : State → State × Reply}
    (h : bodyOwner kind body = some owner) (s : State) : LawsKept s (owner s).1 := by
  obtain ⟨i, -, hi⟩ := Option.bind_eq_some_iff.mp h
  exact ownerOf_lawsKept hi s

theorem takeFrame_lawsKept (kind : Byte) (body : List Byte) (s : State) : LawsKept s (takeFrame kind body s) := by
  unfold takeFrame
  split
  · exact (LawsKept.refl s).hand _
  · exact (LawsKept.refl s).hand _
  · exact (LawsKept.refl s).hand _
  · next ho => exact takeRequest_lawsKept (bodyOwner_lawsKept ho) kind s

theorem completeFrame_lawsKept (bytes : List Byte) (s : State) : LawsKept s (completeFrame bytes s) := by
  unfold completeFrame
  split
  · split
    · exact takeFrame_lawsKept _ _ s
    · exact (LawsKept.refl s).hand _
  · exact .refl s
  · exact .refl s

theorem receiveByte_lawsKept (b : Byte) (s : State) : LawsKept s (receiveByte b s) := by
  have kept : ∀ p, LawsKept s (s.setPort p) := (LawsKept.refl s).setPort
  unfold receiveByte keepByte
  split
  · exact .refl s
  · split
    · split
      · exact kept _
      · exact .refl s
    · dsimp only
      split
      · split
        · exact kept _
        · exact kept _
      · split
        · exact ((kept _).trans (completeFrame_lawsKept _ _)).setPort _
        · exact kept _
    · exact kept _

theorem gapTimeout_lawsKept (s : State) : LawsKept s (gapTimeout s) := by
  unfold gapTimeout
  split
  · exact .refl s
  · exact (LawsKept.refl s).setPort _
  · exact (LawsKept.refl s).setPort _

theorem answerSent_lawsKept (s : State) : LawsKept s (answerSent s) := by
  unfold answerSent
  split
  · exact (LawsKept.refl s).setPort _
  · exact .refl s
  · exact .refl s

end Sys2Proof.Machine

namespace Sys2Proof.Machine
open Sys2Proof.Safety

/-! ## The zones' events keep the laws of the route table -/

theorem State.enterWaking_lawsKept (s : State) (z : ZoneIx) : LawsKept s (s.enterWaking z) :=
  (s.setZoneLive_lawsKept (.inr ⟨by simp, by simp⟩)).raise _

theorem State.enterActive_lawsKept (s : State) (z : ZoneIx) : LawsKept s (s.enterActive z) :=
  (s.setZoneLive_lawsKept (.inr ⟨by simp, by simp⟩)).raise _

@[simp] theorem State.breakFrame_zoneLive (s : State) (y z : ZoneIx) : (s.breakFrame z).zoneLive y = s.zoneLive y :=
  rfl

theorem State.enterStandby_lawsKept (s : State) (z : ZoneIx) : LawsKept s (s.enterStandby z) := by
  have rested : LawsKept s (s.setZoneLive z
      { s.zoneLive z with power := .standby, ampEnabled := false, timer := .none }) :=
    s.setZoneLive_lawsKept (.inr ⟨by simp, by simp⟩)
  have broken := rested.trans (u := (s.setZoneLive z
      { s.zoneLive z with power := .standby, ampEnabled := false, timer := .none }).breakFrame z)
    (.of_eq rfl rfl rfl rfl rfl)
  exact broken.raise .zoneChange

/-- The zone that enters FAULT has every route into it halted in the same event (R138). -/
theorem State.enterFault_lawsKept (s : State) (z : ZoneIx) : LawsKept s (s.enterFault z) := by
  have halted : LawsKept s (((s.setZoneLive z
      { s.zoneLive z with power := .fault, ampEnabled := false, timer := .none }).breakFrame z).haltZone z
        .zoneFault) := by
    refine .of_haltZone rfl rfl (fun y h => ?_) (fun y hy h => ?_) fun _ _ h => h
    · rw [State.breakFrame_zoneLive, State.setZoneLive_zoneLive] at h
      split at h
      · simp at h
      · exact h
    · rwa [State.breakFrame_zoneLive, State.setZoneLive_zoneLive, if_neg (Ne.symm hy)] at h
  exact (halted.raise .zoneFault).raise .zoneChange

theorem State.wakeExpired_lawsKept (s : State) (z : ZoneIx) : LawsKept s (s.wakeExpired z) := by
  unfold State.wakeExpired
  split
  · split
    · exact s.enterActive_lawsKept z
    · exact s.enterFault_lawsKept z
  all_goals exact .refl s

theorem State.standbyExpired_lawsKept (s : State) (z : ZoneIx) : LawsKept s (s.standbyExpired z) := by
  unfold State.standbyExpired
  split
  · exact s.enterStandby_lawsKept z
  all_goals exact .refl s

theorem State.ampSettled_lawsKept (s : State) (z : ZoneIx) : LawsKept s (s.ampSettled z) := by
  have settled : ∀ l, LawsKept s (s.setAmp z l) := fun _ => .of_eq rfl rfl rfl rfl rfl
  unfold State.ampSettled
  split
  · exact .refl s
  · dsimp only
    split
    · exact (settled _).trans (State.enterFault_lawsKept _ z)
    · exact (settled _).trans (State.enterFault_lawsKept _ z)
    · exact (settled _).trans (State.enterStandby_lawsKept _ z)
    all_goals exact settled _

theorem State.keySettled_lawsKept (s : State) (k : KeyIx) : LawsKept s (s.keySettled k) := by
  unfold State.keySettled
  split
  · exact .refl s
  · refine .of_power rfl rfl rfl fun z => .inl ?_
    simp only [State.takeKey, State.setKey, State.zoneLive, Table.get_zipWith]
    split <;> rfl

theorem onZone_lawsKept {f : State → ZoneIx → State} (h : ∀ s z, LawsKept s (f s z)) (zone : Nat) (s : State) :
    LawsKept s (onZone zone f s) := by
  unfold onZone
  split
  · exact whenRunning_lawsKept (fun s => h s _) s
  · exact .refl s

/-! ## The ring detector keeps the laws of the route table -/

@[simp] theorem Ring.persist_runaway (r : Ring) (c : Option Nat) : (r.persist c).runaway = r.runaway := by
  unfold Ring.persist
  split
  · rfl
  · rfl
  · split <;> rfl

@[simp] theorem Ring.answer_runaway (r : Ring) (b : Nat) : (r.answer b).ring.runaway = r.runaway := by
  unfold Ring.answer Ring.hitNotch Ring.placeNotch
  split
  · split <;> rfl
  · split <;> rfl

@[simp] theorem Ring.ageAll_runaway (release : Nat) (hit : Option NotchIx) (confirmed : Bool) (r : Ring) :
    (r.ageAll release hit confirmed).runaway = r.runaway := by
  unfold Ring.ageAll Ring.recover
  split
  · split <;> rfl
  · split
    · rfl
    · dsimp only
      split <;> rfl

/-- A zone that is in runaway after a frame result was in it before, or has entered it with that result (R157). -/
theorem Ring.frameOutcome_runaway {v : ZoneSettings} {c : Option Nat} {r : Ring} :
    (r.frameOutcome v c).ring.runaway = true → r.runaway = true ∨ (r.frameOutcome v c).runaway = true := by
  unfold Ring.frameOutcome
  dsimp only
  split
  · next e => exact fun _ => .inl e
  · exact fun h => .inr (by rwa [Ring.ageAll_runaway] at h)
  · exact fun h => .inl (by simpa using h)
  · exact fun h => .inl (by simpa using h)

theorem State.takeFrame_lawsKept (s : State) (z : ZoneIx) (f : FrameCapture) : LawsKept s (s.takeFrame z f) := by
  have taken : LawsKept s (s.setFrame z { s.ring.frames.get z with due := none }) := .of_eq rfl rfl rfl rfl rfl
  refine taken.trans ?_
  unfold State.takeFrame
  dsimp only
  generalize s.setFrame z { s.ring.frames.get z with due := none } = t
  generalize s.zoneSettings z = v
  split
  · refine LawsKept.raiseIf (LawsKept.raiseIf ?_ _ _) _ _
    split
    · refine .of_haltZone rfl rfl (fun _ h => h) (fun _ _ h => h) fun y hy h => ?_
      rwa [State.setRing_ringOf, if_neg (Ne.symm hy)] at h
    · next h => exact t.setRing_lawsKept fun hr => (Ring.frameOutcome_runaway hr).resolve_right h
  · exact t.setRing_lawsKept fun h => h

theorem State.frameResult_lawsKept (s : State) (z : ZoneIx) : LawsKept s (s.frameResult z) := by
  unfold State.frameResult
  split
  · exact s.takeFrame_lawsKept z _
  · exact .refl s

theorem State.endZoneFrame_lawsKept (s : State) (z : ZoneIx) : LawsKept s (s.endZoneFrame z) := by
  unfold State.endZoneFrame
  split
  · exact .refl s
  · exact (s.frameResult_lawsKept z).trans (.of_eq rfl rfl rfl rfl rfl)

theorem endFrame_lawsKept (s : State) : LawsKept s (endFrame s) :=
  List.foldlRecOn _ _ (LawsKept.refl s) fun t h z _ => h.trans (t.endZoneFrame_lawsKept z)

/-! ## A block completion keeps the laws of the route table -/

theorem flipStep_lawsKept (s : State) : LawsKept s (flipStep s) :=
  (s.mapRoutes_lawsKept fun r => .of_flip s r).raiseIf _ _

theorem State.cueRestage_lawsKept {s t : State} {k : SlotIx} {level : Option Int} {rate : Option Nat}
    {preset : Option PresetIx} {delay : DelayEdit}
    (h : s.cueRestage k (stageArm level rate preset delay) = .ok t) : LawsKept s t := by
  obtain ⟨r, hr, ha, rfl⟩ := State.cueRestage_ok h
  exact State.setSlot_moved hr (.of_arming (stageArmRefusal_eq_none.mp ha).1 rfl rfl rfl)

theorem State.applyEntry_lawsKept {s t : State} {c : CueIx} {e : CueEntry} {hs : List Handed}
    (h : s.applyEntry c e = .ok (t, hs)) : LawsKept s t := by
  obtain ⟨k, _, _, _, _, hr⟩ | ⟨k, i, z, b, ha, hz, hk, -, rfl⟩ | ⟨k, r, hr, rfl⟩ | rfl | rfl := State.applyEntry_ok h
  · exact State.cueRestage_lawsKept hr
  · exact State.placeAt_lawsKept ha hz hk
  · exact State.setSlot_moved hr (.of_retire r)
  · exact .refl _
  · exact .of_eq rfl rfl rfl rfl rfl

theorem State.endTake_lawsKept (s : State) (r : CueResult) : LawsKept s (s.endTake r) := by
  have written : LawsKept s (s.setEngine { s.engine with result := some r }) := .of_eq rfl rfl rfl rfl rfl
  exact (written.raise _).raiseIf _ _

theorem takeCue_lawsKept (s : State) : LawsKept s (takeCue s).1 := by
  unfold takeCue
  split
  · exact .refl s
  · next c rest _ =>
    have popped : LawsKept s (s.setEngine { s.engine with queue := rest }) := .of_eq rfl rfl rfl rfl rfl
    have applied := popped.trans (applyEntries_induct (c := c) LawsKept.refl (fun _ _ _ => LawsKept.trans)
      (fun _ _ _ _ => State.applyEntry_lawsKept) 0 (s.entriesOf c) (s.setEngine { s.engine with queue := rest })
      { result := { cue := c, applied := 0, skipped := 0, firstSkip := none }, handed := [] })
    exact applied.trans (State.endTake_lawsKept _ _)

theorem takeHanded_lawsKept (s : State) (hs : List Handed) : LawsKept s (takeHanded s hs) :=
  List.foldlRecOn _ _ (LawsKept.refl s) fun t h e _ => h.trans (t.setControllerLive_lawsKept e.1 e.2)

theorem State.takeDemand_lawsKept (s : State) (z : ZoneIx) (present : Bool) : LawsKept s (s.takeDemand z present) := by
  have told : ∀ t : State, LawsKept s t → ∀ timer, (t.zoneLive z).power = (s.zoneLive z).power →
      LawsKept s (t.setZoneLive z { s.zoneLive z with demandPresent := present, timer := timer }) :=
    fun t h _ e => h.trans (t.setZoneLive_lawsKept (.inl e.symm))
  have first : LawsKept s (s.setZoneLive z { s.zoneLive z with demandPresent := present }) :=
    s.setZoneLive_lawsKept (.inl rfl)
  have power : ((s.setZoneLive z { s.zoneLive z with demandPresent := present }).zoneLive z).power
      = (s.zoneLive z).power := by
    rw [State.setZoneLive_zoneLive, if_pos rfl]
  unfold State.takeDemand
  dsimp only
  split
  · exact first.trans (State.enterWaking_lawsKept _ z)
  · exact told _ first _ power
  · exact told _ first _ power
  all_goals exact first

theorem State.takeCount_lawsKept (s : State) (z : ZoneIx) (old new : Nat) : LawsKept s (s.takeCount z old new) := by
  unfold State.takeCount
  split
  · exact s.takeDemand_lawsKept z true
  · split
    · exact s.takeDemand_lawsKept z false
    · exact .refl s

theorem State.tellDemand_lawsKept (s : State) (old new : Table Nat 24) : LawsKept s (s.tellDemand old new) :=
  List.foldlRecOn _ _ (LawsKept.refl s) fun t h z _ => h.trans (t.takeCount_lawsKept z _ _)

theorem settleStep_lawsKept (s : State) : LawsKept s (settleStep s) := by
  unfold settleStep
  dsimp only
  refine LawsKept.trans ?_ (State.tellDemand_lawsKept _ _ _)
  generalize s.countDemand s.settleTable = counts
  have around : NoStricter s (s.setEngine { s.engine with table := s.settleTable, demand := counts }) :=
    .of_eq rfl rfl rfl
  refine (around.routesFollow fun k r' hr' => ?_).lawsKept
  have slot : (s.route? k).bind (fun r => settleRoute (s.dueOf r) (s.evalTarget r) r) = some r' := by
    simpa [State.route?, State.settleTable] using hr'
  obtain ⟨r, hr, h⟩ := Option.bind_eq_some_iff.mp slot
  exact ⟨r, hr, .of_settle h⟩

theorem State.sweepRoute_follows {s : State} {r r' : Route} {act : SweepAction} (h : s.sweepRoute act r = .ok r') :
    Follows s s r r' := by
  have same := NoStricter.refl s
  obtain rfl | rfl | hc | rfl | ⟨hs, rfl | ⟨v, rfl⟩⟩ := State.sweepRoute_ok h
  · exact (Moved.of_retire r).follows same
  · exact (Moved.of_halt _ r).follows same
  · exact .of_cleared hc
  · exact (Moved.refl _).follows same
  · exact (Moved.of_arming hs (by rfl) (by rfl) (by rfl)).follows same
  · exact (Moved.of_arming hs (by rfl) (by rfl) (by rfl)).follows same

theorem scanStep_lawsKept (s : State) : LawsKept s (scanStep s) := by
  unfold scanStep
  split
  · exact .refl s
  · next sc _ =>
    have examined := examine_induct LawsKept.refl (fun _ _ _ => LawsKept.trans)
      (fun _ _ _ _ _ hr h => State.setSlot_lawsKept hr (State.sweepRoute_follows h)) 16 s sc
    split
    · next he =>
      rw [he] at examined
      exact examined.trans (.of_eq rfl rfl rfl rfl rfl)
    · next he =>
      rw [he] at examined
      exact examined.trans (.of_eq rfl rfl rfl rfl rfl)

theorem routeWork_lawsKept (zonesFirst : Nat) (s : State) : LawsKept s (routeWork zonesFirst s) :=
  (flipStep_lawsKept s).trans <| (takeCue_lawsKept _).trans <| (takeHanded_lawsKept _ _).trans <|
    (settleStep_lawsKept _).trans <| (takeHanded_lawsKept _ _).trans (scanStep_lawsKept _)

theorem gateStep_lawsKept (s : State) : LawsKept s (gateStep s) :=
  .of_eq rfl rfl rfl rfl rfl

theorem clockMove_lawsKept (s : State) : LawsKept s (clockMove s) := by
  unfold clockMove
  split
  · exact .of_eq rfl rfl rfl rfl rfl
  · exact .refl s

theorem beginBlock_lawsKept (s : State) : LawsKept s (beginBlock s) := by
  refine NoStricter.lawsKept ⟨fun _ => rfl, fun _ => rfl, fun _ => id, fun _ => id, fun z => ?_⟩ rfl
  simp [beginBlock, State.ringOf, settleNotches]

theorem completeBlock_lawsKept (gateFirst : Bool) (zonesFirst : Nat) (s : State) :
    LawsKept s (completeBlock gateFirst zonesFirst s) := by
  unfold completeBlock
  refine LawsKept.trans ?_ ((clockMove_lawsKept _).trans (beginBlock_lawsKept _))
  split
  · exact (gateStep_lawsKept s).trans (routeWork_lawsKept _ _)
  · exact (routeWork_lawsKept _ s).trans (gateStep_lawsKept _)

/-! ## The other events keep the laws of the route table -/

theorem samplePeriod_lawsKept (xs : Table SampleWord 32) (s : State) : LawsKept s (samplePeriod xs s) :=
  .of_power rfl rfl rfl fun z => .inl (by simp [samplePeriod, tickTimers, State.zoneLive])

theorem clockLost_lawsKept (s : State) : LawsKept s (clockLost s) := by
  unfold clockLost
  dsimp only
  split <;> exact .of_eq rfl rfl rfl rfl rfl

theorem clockReturned_lawsKept (s : State) : LawsKept s (clockReturned s) := by
  unfold clockReturned
  split <;> exact .of_eq rfl rfl rfl rfl rfl

theorem clockLock_lawsKept (s : State) : LawsKept s (clockLock s) := by
  unfold clockLock
  dsimp only
  split <;> exact .of_eq rfl rfl rfl rfl rfl

theorem clockMoveDue_lawsKept (s : State) : LawsKept s (clockMoveDue s) := by
  unfold clockMoveDue
  split
  · exact clockMove_lawsKept s
  · exact .refl s

theorem endWrite_lawsKept (left : WorkingCopy → FlashImage) (n : Notice) (s : State) :
    LawsKept s (endWrite left n s) := by
  unfold endWrite
  split <;> exact .of_eq rfl rfl rfl rfl rfl

theorem hold_lawsKept (s : State) : LawsKept s (hold s) := by
  have rests : ∀ z, ((hold s).zoneLive z).power = .standby := fun z => by simp [hold, State.zoneLive, holdZone]
  exact NoStricter.lawsKept ⟨fun _ => rfl, fun _ => rfl, fun z => by simp [rests z], fun z => by simp [rests z],
    fun _ => id⟩ rfl

theorem powerDown_lawsKept (s : State) : LawsKept s (powerDown s) :=
  .of_free fun k => by simp [powerDown, State.route?, RouteEngine.atStart]

theorem startUp_lawsKept (s : State) : LawsKept s (startUp s) :=
  .of_free fun k => by simp [startUp, State.route?, RouteEngine.atStart]

theorem restartDue_lawsKept (s : State) : LawsKept s (restartDue s) := by
  unfold restartDue
  split
  · exact .of_free fun k => by simp [restart, State.route?, RouteEngine.atStart]
  · exact .refl s
  · exact .refl s

/-! ## Every step keeps the laws of the route table (O53) -/

theorem request_lawsKept {i : Instr} {owner : State → State × Reply} (h : ownerOf i = some owner) {s t : State}
    (ht : exec i s = .next t) : LawsKept s t := by
  obtain ⟨kind, he⟩ := exec_of_ownerOf h
  obtain rfl := Host.Outcome.next.inj ((he s).symm.trans ht)
  exact onFrame_lawsKept (takeRequest_lawsKept (ownerOf_lawsKept h) kind) s

theorem event_lawsKept {i : Instr} (h : ownerOf i = none) {s t : State} (ht : exec i s = .next t) : LawsKept s t := by
  cases i <;> cases h <;> obtain rfl := Host.Outcome.next.inj ht
  case unknownKindFrame kind body => exact onFrame_lawsKept (takeFrame_lawsKept kind body) s
  case byteReceived b => exact whenRunning_lawsKept (receiveByte_lawsKept b) s
  case gapTimeout => exact whenRunning_lawsKept gapTimeout_lawsKept s
  case answerSent => exact whenRunning_lawsKept answerSent_lawsKept s
  case blockCompletion g n => exact whenRunning_lawsKept (completeBlock_lawsKept g n) s
  case analysisFrameEnd => exact whenRunning_lawsKept endFrame_lawsKept s
  case frameResult zone _ => exact onZone_lawsKept State.frameResult_lawsKept zone s
  case ampokLineChange zone ok =>
    split
    · exact .of_eq rfl rfl rfl rfl rfl
    · exact .refl s
  case ampStatusDebounced zone => exact onZone_lawsKept State.ampSettled_lawsKept zone s
  case keyLineChange key on =>
    split
    · exact .of_eq rfl rfl rfl rfl rfl
    · exact .refl s
  case keyDebounced key =>
    split
    · exact whenRunning_lawsKept (fun s => s.keySettled_lawsKept _) s
    · exact .refl s
  case wakeTimerExpiry zone => exact onZone_lawsKept State.wakeExpired_lawsKept zone s
  case standbyTimerExpiry zone => exact onZone_lawsKept State.standbyExpired_lawsKept zone s
  case houseClockLost => exact whenRunning_lawsKept clockLost_lawsKept s
  case houseClockReturned => exact whenRunning_lawsKept clockReturned_lawsKept s
  case houseClockLock => exact whenRunning_lawsKept clockLock_lawsKept s
  case houseClockMove => exact whenRunning_lawsKept clockMoveDue_lawsKept s
  case storeWriteDone => exact whenRunning_lawsKept (endWrite_lawsKept _ _) s
  case storeWriteFailed left => exact whenRunning_lawsKept (endWrite_lawsKept _ _) s
  case storeStageTimeout left => exact whenRunning_lawsKept (endWrite_lawsKept _ _) s
  case rstLLow => exact hold_lawsKept s
  case powerLoss => exact powerDown_lawsKept s
  case startUpSequence =>
    split
    · exact startUp_lawsKept s
    · exact startUp_lawsKept s
    · exact .refl s
  case restartSequence => exact whenRunning_lawsKept restartDue_lawsKept s
  case samplePeriod ain => exact whenRunning_lawsKept (samplePeriod_lawsKept _) s

/-- Settles O53: each of the parts of a step sends every record to one that keeps its key and its laws, or makes one
that its checks let through. -/
theorem routeLawsKept : Obligations.RouteLawsKept := by
  unfold Obligations.RouteLawsKept
  intro s t h
  change LawsKept s t
  unfold step at h
  split at h
  · obtain rfl := Host.Outcome.next.inj h
    exact .refl s
  · next c rest _ =>
    have popped : LawsKept s { s with pending := rest } := .of_eq rfl rfl rfl rfl rfl
    cases ho : ownerOf c with
    | some owner => exact popped.trans (request_lawsKept ho h)
    | none => exact popped.trans (event_lawsKept ho h)

end Sys2Proof.Machine

namespace Sys2Proof.Machine
open Sys2Proof.Safety

/-! ## Requests about one route (chapters 1 and 3) -/

/-- A request row that a ready part takes and its owner answers at once. -/
theorem exec_answered {i : Instr} {kind : Byte} {owner : State → State × Reply} {s t : State} {st : Status}
    {body : List Byte} (hs : Ready s) (he : exec i s = .next (onRequest kind owner s))
    (ho : owner s = (t, some (st, body))) : exec i s = .next (answered t kind st body) := by
  rw [he, onRequest_answered hs ho]

theorem onRoute_ok {s : State} {name : RouteName} {k : SlotIx} {r : Route} (h : s.findRoute name = .ok (k, r))
    (act : SlotIx → Route → State → State × Reply) : onRoute name act s = act k r s := by
  simp [onRoute, h]

theorem onRoute_error {s : State} {name : RouteName} {st : Status} (h : s.findRoute name = .error st)
    (act : SlotIx → Route → State → State × Reply) : onRoute name act s = (s, plain st) := by
  simp [onRoute, h]

theorem flag?_of_le_one {n : Nat} (h : n ≤ 1) : ∃ b, flag? n = some b := by
  interval_cases n <;> exact ⟨_, rfl⟩

theorem flag?_of_one_lt {n : Nat} (h : 1 < n) : flag? n = none := by
  unfold flag?
  split <;> simp_all

/-- An optional index within its table is that of an optional thing. -/
theorem optionalIndex_of_le {n : Nat} {p : Option Nat} (h : ∀ k, p = some k → k ≤ n) :
    ∃ q : Option (Fin (n + 1)), p = q.map Fin.val := by
  cases p with
  | none => exact ⟨none, rfl⟩
  | some k => exact ⟨some ⟨k, Nat.lt_succ_of_le (h k rfl)⟩, rfl⟩

theorem delayEdit?_of_not_both {delay : Option Nat} {geometric : Bool} (h : delay = none ∨ geometric = false) :
    ∃ d, delayEdit? delay geometric = some d := by
  cases delay <;> cases geometric <;> simp_all [delayEdit?]

/-- A STAGE-ROUTE whose fields are in their ranges acts on the route it names, or answers why it names none (R53). -/
theorem takeStageRoute_error {s : State} {name : RouteName} {st : Status} (h : s.findRoute name = .error st)
    {base : Nat} {f : StageFields} (hb : base ≤ 1) (hp : ∀ p, f.preset = some p → p ≤ 15)
    (hd : f.delay = none ∨ f.geometric = false) : takeStageRoute name base f s = (s, plain st) := by
  obtain ⟨keep, hk⟩ := flag?_of_le_one hb
  obtain ⟨p, hp⟩ := optionalIndex_of_le hp
  obtain ⟨d, hd⟩ := delayEdit?_of_not_both hd
  simp [takeStageRoute, hk, hp, hd, onRoute_error h]

/-- Settles O6: by the form of the name, then request by request. -/
theorem routeNamesFindRoutes : Obligations.RouteNamesFindRoutes := by
  unfold Obligations.RouteNamesFindRoutes
  refine ⟨fun s k r h => ?_, fun s k h => ?_, fun s i z h => ?_, fun s k r hd h => ?_, fun s i z h => ?_,
    fun s name st hs h => ?_⟩
  · simp [State.findRoute, h]
  · simp [State.findRoute, h]
  · rcases h with h | h
    · simp [State.findRoute, number?_outside h]
    · cases hi : number? 32 i <;> simp [State.findRoute, number?_outside h, hi]
  · simp [State.findRoute, State.slotOfKey?_of_route hd h, h]
  · simp [State.findRoute, State.slotOfKey?_eq_none.mpr h]
  · exact ⟨exec_answered hs rfl (onRoute_error h _), exec_answered hs rfl (onRoute_error h _),
      exec_answered hs rfl (onRoute_error h _), exec_answered hs rfl (onRoute_error h _),
      exec_answered hs rfl (onRoute_error h _),
      fun base f hb hp hd => exec_answered hs rfl (takeStageRoute_error h hb hp hd)⟩

/-- Settles O8: the two branches of the act on a route that is found. -/
theorem retireRouteByState : Obligations.RetireRouteByState := by
  unfold Obligations.RetireRouteByState
  intro s name hs
  refine ⟨fun st h => exec_answered hs rfl (onRoute_error h _), fun k r h => ⟨fun hr => ?_, fun hr => ?_⟩⟩
  · exact exec_answered hs rfl ((onRoute_ok h _).trans (if_pos hr))
  · rw [← retire_eq r hr]
    exact exec_answered hs rfl ((onRoute_ok h _).trans (if_neg hr))

theorem takeHaltRoute_ok {s : State} {name : RouteName} {k : SlotIx} {r : Route} (h : s.findRoute name = .ok (k, r))
    (hr : r.state ≠ .retiring) :
    takeHaltRoute name s = (s.setSlot k (some (halt .controller r)), some (.ok, [BitVec.ofNat 8 k.1])) :=
  (onRoute_ok h _).trans (if_neg hr)

/-- Settles O11: the act on a route that is found, by what a halt does to its state; a HALTED one is written back as
it stands. -/
theorem haltRouteByState : Obligations.HaltRouteByState := by
  unfold Obligations.HaltRouteByState
  intro s name hs
  refine ⟨fun st h => exec_answered hs rfl (onRoute_error h _), fun k r h => ⟨fun hr => ?_,
    fun c hr => ?_, fun hr => ?_⟩⟩
  · exact exec_answered hs rfl ((onRoute_ok h _).trans (if_pos hr))
  · have taken := takeHaltRoute_ok h (by simp [hr])
    rw [halt_of_halted c _ r hr, State.setSlot_route?_self (State.findRoute_ok h)] at taken
    exact exec_answered hs rfl taken
  · rw [← halt_eq _ r hr]
    exact exec_answered hs rfl (takeHaltRoute_ok h (by rcases hr with hr | hr | ⟨d, hr⟩ <;> simp [hr]))

theorem takeClearRoute_ok {s : State} {name : RouteName} {k : SlotIx} {r r' : Route}
    (h : s.findRoute name = .ok (k, r)) (hc : s.cleared r = .ok r') :
    takeClearRoute name s = (s.setSlot k (some r'), some (.ok, [BitVec.ofNat 8 k.1])) := by
  simp [takeClearRoute, onRoute_ok h, hc, uIndex, u8]

theorem takeClearRoute_error {s : State} {name : RouteName} {k : SlotIx} {r : Route} {st : Status}
    (h : s.findRoute name = .ok (k, r)) (hc : s.cleared r = .error st) :
    takeClearRoute name s = (s, some (st, [BitVec.ofNat 8 k.1])) := by
  simp [takeClearRoute, onRoute_ok h, hc, uIndex, u8]

/-- Settles O12: what `State.cleared` gives in each row of R66's table. -/
theorem clearRouteByState : Obligations.ClearRouteByState := by
  unfold Obligations.ClearRouteByState
  intro s name hs
  refine ⟨fun st h => exec_answered hs rfl (onRoute_error h _), fun k r h => ⟨fun hr => ?_, fun c hr => ⟨fun hf => ?_,
    fun hf hw => ?_, fun hf hw => ?_⟩⟩⟩
  · have left : s.cleared r = .ok r := by
      unfold State.cleared
      split
      · next hh =>
        obtain ⟨c, hc⟩ := isHalted_iff.mp hh
        exact absurd hc (hr c)
      · rfl
    have taken := takeClearRoute_ok h left
    rw [State.setSlot_route?_self (State.findRoute_ok h)] at taken
    exact exec_answered hs rfl taken
  · exact exec_answered hs rfl (takeClearRoute_error h (by simp [State.cleared, hr, isHalted, hf]))
  · exact exec_answered hs rfl (takeClearRoute_error h (by simp [State.cleared, hr, isHalted, hf, hw]))
  · exact exec_answered hs rfl (takeClearRoute_ok h (by simp [State.cleared, hr, isHalted, hf, hw, release]))

/-! ## PLACE-ROUTE (R6 to R9) -/

section Placement

variable {s : State} {i : InputIx} {z : ZoneIx} (level : Int) (rate : Option Nat) (preset : Option PresetIx)
  (delay : Option Nat)

theorem takePlaceRoute_absent (h : (s.zoneLive z).power = .absent) :
    takePlaceRoute (i.1 + 1) (z.1 + 1) level rate (preset.map Fin.val) delay s = (s, plain .absent) := by
  simp [takePlaceRoute, h]

theorem takePlaceRoute_barred {st : Status} (ha : (s.zoneLive z).power ≠ .absent) (h : s.zoneRefusal i z = some st) :
    takePlaceRoute (i.1 + 1) (z.1 + 1) level rate (preset.map Fin.val) delay s = (s, plain st) := by
  simp [takePlaceRoute, ha, h]

theorem takePlaceRoute_held {k : SlotIx} (ha : (s.zoneLive z).power ≠ .absent) (h : s.zoneRefusal i z = none)
    (hk : s.slotOfKey? i z = some k) :
    takePlaceRoute (i.1 + 1) (z.1 + 1) level rate (preset.map Fin.val) delay s
      = (s, heldKeyReply k (s.route? k)) := by
  simp [takePlaceRoute, ha, h, hk]

theorem takePlaceRoute_full (ha : (s.zoneLive z).power ≠ .absent) (h : s.zoneRefusal i z = none)
    (hk : s.slotOfKey? i z = none) (hf : s.lowestFree? = none) :
    takePlaceRoute (i.1 + 1) (z.1 + 1) level rate (preset.map Fin.val) delay s = (s, plain .full) := by
  simp [takePlaceRoute, ha, h, hk, hf]

theorem takePlaceRoute_placed {k : SlotIx} (ha : (s.zoneLive z).power ≠ .absent) (h : s.zoneRefusal i z = none)
    (hk : s.slotOfKey? i z = none) (hf : s.lowestFree? = some k) :
    takePlaceRoute (i.1 + 1) (z.1 + 1) level rate (preset.map Fin.val) delay s
      = (s.placeAt k i z (placementBank level rate preset delay),
          some (okStatus (placementClamped level rate delay), uIndex k)) := by
  simp [takePlaceRoute, ha, h, hk, hf]

end Placement

theorem takePlaceRoute_range {i z : Nat} {preset : Option Nat}
    (h : outside 32 i ∨ outside 24 z ∨ ∃ p, preset = some p ∧ 15 < p) (level : Int) (rate delay : Option Nat)
    (s : State) : takePlaceRoute i z level rate preset delay s = (s, plain .range) := by
  unfold takePlaceRoute
  split
  · next hi hz hp =>
    rcases h with h | h | ⟨p, rfl, h⟩
    · simp [number?_outside h] at hi
    · simp [number?_outside h] at hz
    · simp [optional?, index?_outside (n := 16) h] at hp
  · rfl

/-- The bank that a placement gives, in numbers (R6). -/
theorem placementBank_eq (level : Int) (rate : Option Nat) (preset : Option PresetIx) (delay : Option Nat) :
    placementBank level rate preset delay =
      { level := max (-480) (min 48 level), rate := min 48 (rate.getD 8), preset := preset.getD 0
        delay := delay.map (min 24000) } := by
  have : clampDelay = min 24000 := funext fun d => clampNat_zero _ d
  simp [placementBank, clampLevel, clampInt, clampRate, clampNat_zero, this]

theorem placementClamped_iff (level : Int) (rate delay : Option Nat) :
    placementClamped level rate delay = true ↔
      level < -480 ∨ 48 < level ∨ 48 < rate.getD 8 ∨ 24000 < delay.getD 0 := by
  have number : ∀ (hi d : Nat) (x : Option Nat), d ≤ hi →
      (clampChanges (clampNat 0 hi) x = true ↔ hi < x.getD d) := by
    intro hi d x hd
    cases x with
    | none => simp [hd]
    | some x => simp [clampChanges_some, clampNat_ne]
  have quantity : clampChanges clampLevel (some level) = true ↔ level < -480 ∨ 48 < level :=
    (clampChanges_some _ _).trans (clampInt_ne (by decide))
  simp only [placementClamped, Bool.or_eq_true, quantity, clampRate, clampDelay, number 48 8 rate (by decide),
    number 24000 0 delay (by decide), or_assoc]

/-- Settles O7: what PLACE-ROUTE does in each row of R7's checks. -/
theorem placementMadeOrRefused : Obligations.PlacementMadeOrRefused := by
  unfold Obligations.PlacementMadeOrRefused
  constructor
  · intro s i z level rate preset delay k hs ha hf hw hl hk hfree hlow bank due hbank hdue
    have delay_eq : s.dueDelay i z bank = due := by
      subst hbank hdue
      cases delay <;> rfl
    rw [exec_answered hs rfl (takePlaceRoute_placed level rate preset delay ha
      (State.zoneRefusal_eq_none.mpr ⟨hf, hw, hl⟩) (State.slotOfKey?_eq_none.mpr hk)
      (State.lowestFree?_eq_some.mpr ⟨hfree, hlow⟩))]
    simp only [okStatus, placementClamped_iff, placementBank_eq, ← hbank, State.placeAt, State.newRoute, delay_eq]
    rfl
  · intro s level rate preset delay hs
    refine ⟨fun i z h => exec_answered hs rfl (takePlaceRoute_range h level rate delay s), fun hp i z => ?_⟩
    obtain ⟨preset, rfl⟩ := optionalIndex_of_le hp
    refine ⟨fun ha => ?_, fun hf => ?_, fun ha hf => ⟨fun hw => ?_, fun hw => ⟨fun hl => ?_, fun hl => ⟨?_, ?_⟩⟩⟩⟩
    · exact exec_answered hs rfl (takePlaceRoute_absent level rate preset delay ha)
    · exact exec_answered hs rfl
        (takePlaceRoute_barred level rate preset delay (by simp [hf]) (by simp [State.zoneRefusal, hf]))
    · exact exec_answered hs rfl
        (takePlaceRoute_barred level rate preset delay ha (by simp [State.zoneRefusal, hf, hw]))
    · exact exec_answered hs rfl
        (takePlaceRoute_barred level rate preset delay ha (by simp [State.zoneRefusal, hf, hw, hl]))
    · rintro k r hd hr rfl rfl
      refine exec_answered hs rfl ((takePlaceRoute_held level rate preset delay ha
        (State.zoneRefusal_eq_none.mpr ⟨hf, hw, hl⟩) (State.slotOfKey?_of_route hd hr)).trans ?_)
      simp only [heldKeyReply, hr]
      split <;> rfl
    · intro hfull
      have held : ∀ k, s.route? k ≠ none := fun k => by
        obtain ⟨r, hr, -⟩ := hfull k
        simp [hr]
      have unheld : ∀ k r, s.route? k = some r → ¬(r.input = i ∧ r.zone = z) := fun k r hr => by
        obtain ⟨r', hr', h⟩ := hfull k
        obtain rfl := Option.some.inj (hr.symm.trans hr')
        exact h
      exact exec_answered hs rfl (takePlaceRoute_full level rate preset delay ha
        (State.zoneRefusal_eq_none.mpr ⟨hf, hw, hl⟩) (State.slotOfKey?_eq_none.mpr unheld)
        (State.lowestFree?_eq_none.mpr held))

end Sys2Proof.Machine

namespace Sys2Proof.Machine
open Sys2Proof.Safety

/-! ## Step 4 for one route (chapter 2) -/

theorem rampStep_zero (c t : Int) : rampStep 0 c t = t := by
  unfold rampStep
  split <;> simp_all

theorem rampStep_near {n : Nat} {c t : Int} (h : (t - c).natAbs ≤ n) : rampStep n c t = t := by
  unfold rampStep
  split <;> simp_all

theorem rampStep_up {n : Nat} {c t : Int} (hn : 0 < n) (h : n < (t - c).natAbs) (hc : c < t) :
    rampStep n c t = c + n := by
  rw [rampStep, if_neg hc.ne, if_neg (by omega), if_pos hc]

theorem rampStep_down {n : Nat} {c t : Int} (hn : 0 < n) (h : n < (t - c).natAbs) (hc : t < c) :
    rampStep n c t = c - n := by
  rw [rampStep, if_neg hc.ne', if_neg (by omega), if_neg (by omega)]

/-- Settles O37: the branches of the ramp, then those of step 4. -/
theorem routeStepsByState : Obligations.RouteStepsByState := by
  unfold Obligations.RouteStepsByState
  refine ⟨fun n c t => ⟨?_, fun _ => rampStep_near, rampStep_up, rampStep_down⟩,
    fun r due target limited => ⟨?_, ?_, ?_, ?_⟩⟩
  · rintro rfl
    exact rampStep_zero c t
  · rintro (h | h) now rfl <;> simp [settleRoute, stepRate, h]
  · rintro d h now rfl
    simp only [settleRoute, stepRate, h]
    split <;> rfl
  · rintro c h now rfl
    simp only [settleRoute, stepRate, h]
    split <;> rfl
  · rintro h now rfl
    simp only [settleRoute, stepRate, h]

/-! ## SET-GEOMETRY (R148) -/

theorem retap_of_sounding {due : Nat} {r : Route} (h : r.state = .steady ∨ r.state = .ramping) :
    retap due r = if due = r.delay then r else { r with state := .dipping due } := by
  rcases h with h | h <;> simp [retap, h]

theorem retap_of_dipping {due d : Nat} {r : Route} (h : r.state = .dipping d) :
    retap due r = { r with state := .dipping due } := by
  simp [retap, h]

theorem retap_of_silent {due : Nat} {r : Route} (h : silent r.state) : retap due r = r := by
  rcases h with h | ⟨c, h⟩ <;> simp [retap, h]

theorem State.setDistance_distance (s : State) (st : StationIx) (z : ZoneIx) (d : Nat) (st' : StationIx) (z' : ZoneIx) :
    (s.setDistance st z d).distance st' z' = if st = st' ∧ z = z' then d else s.distance st' z' := by
  simp only [State.distance, State.setDistance, State.setWorking]
  by_cases hst : st = st'
  · subst hst
    simp [Table.get_set]
  · simp [hst]

/-- Settles O26: the one entry written, then the routes it concerns. -/
theorem setGeometryReachesItsRoutes : Obligations.SetGeometryReachesItsRoutes := by
  unfold Obligations.SetGeometryReachesItsRoutes
  intro s hs
  refine ⟨fun n m d h => exec_answered hs rfl ?_, fun st z d => ?_, fun due r => ⟨retap_of_sounding,
    fun d => retap_of_dipping, retap_of_silent⟩⟩
  · show takeSetGeometry n m d s = (s, plain .range)
    unfold takeSetGeometry
    split
    · next hn hm => rcases h with h | h <;> simp [number?_outside h] at hn hm
    · rfl
  · have clamp : clampDistance d = min 15000 d := clampNat_zero _ d
    have status : okStatus (clampChanges clampDistance (some d)) = if 15000 < d then .clamped else .ok := by
      simp [okStatus, clampChanges_some, clampDistance, clampNat_ne]
    have taken : takeSetGeometry (st.1 + 1) (z.1 + 1) d s =
        ((s.setDistance st z (min 15000 d)).retapWhere fun r =>
            r.zone = z && (s.inputSettings r.input).station = st,
          some (if 15000 < d then .clamped else .ok, [])) := by
      simp only [takeSetGeometry, number?_succ, plain, status, clamp]
    refine ⟨_, exec_answered hs rfl taken, ?_, fun st' z' h => ?_, fun k => ?_, rfl⟩
    · exact (s.setDistance_distance st z _ st z).trans (if_pos ⟨rfl, rfl⟩)
    · exact (s.setDistance_distance st z _ st' z').trans (if_neg fun e => h ⟨e.1.symm, e.2.symm⟩)
    · rw [State.retapWhere_route?]
      refine Option.map_congr fun r _ => if_congr ?_ rfl rfl
      simp only [Bool.and_eq_true, decide_eq_true_eq]
      tauto

/-! ## Zone events (7.4, 7.5) -/

/-- An event of a zone that a running part takes. -/
theorem onZone_running {s : State} (h : s.run = .running) (z : ZoneIx) (f : State → ZoneIx → State) :
    onZone (z.1 + 1) f s = f s z := by
  simp [onZone, whenRunning_running h]

theorem State.enterFault_zoneLive (s : State) (z y : ZoneIx) :
    (s.enterFault z).zoneLive y =
      if z = y then { s.zoneLive z with power := .fault, ampEnabled := false, timer := .none } else s.zoneLive y :=
  State.setZoneLive_zoneLive s y z _

theorem State.enterFault_route? (s : State) (z : ZoneIx) (k : SlotIx) :
    (s.enterFault z).route? k = (s.route? k).map fun r => if r.zone = z then halt .zoneFault r else r :=
  State.haltZone_route? (State.breakFrame _ z) z .zoneFault k

theorem State.enterFault_notices (s : State) (z : ZoneIx) :
    (s.enterFault z).port.notices = s.port.notices ||| 0x30 := by
  have masks : noticeMask .zoneFault ||| noticeMask .zoneChange = 0x30 := by decide
  rw [← masks, ← BitVec.or_assoc]
  rfl

/-- Settles O27: the fields of the entry into FAULT, then the branches of the two expiries. -/
theorem zoneTimersAndFaults : Obligations.ZoneTimersAndFaults := by
  unfold Obligations.ZoneTimersAndFaults
  refine ⟨fun s z => ⟨(s.enterFault_zoneLive z z).trans (if_pos rfl),
    fun y hy => (s.enterFault_zoneLive z y).trans (if_neg (Ne.symm hy)), s.enterFault_route? z,
    fun r => ⟨?_, halt_eq _ r⟩, s.enterFault_notices z, ?_, rfl⟩,
    fun s z hr => ⟨fun n hp ht => ⟨fun ha => ?_, fun ha => ?_⟩, fun n hp ht => ?_⟩⟩
  · rintro (h | ⟨c, h⟩)
    · exact halt_of_retiring _ r h
    · exact halt_of_halted c _ r h
  · rw [← s.enterFault_notices z]
    rfl
  · have active : s.wakeExpired z = s.enterActive z := by simp [State.wakeExpired, hp, ht, ha]
    have timer : (if (s.zoneLive z).demandPresent = true ∨ (s.zoneSettings z).standbyDelay = 0 then ZoneTimer.none
        else .standby (48000 * (s.zoneSettings z).standbyDelay)) =
        if (s.zoneLive z).demandPresent then .none else standbyTimer (s.zoneSettings z).standbyDelay := by
      rw [standbyTimer, standbyPeriods, Nat.mul_comm]
      split_ifs <;> simp_all
    rw [timer]
    exact congrArg Host.Outcome.next ((onZone_running hr z _).trans active)
  · refine congrArg Host.Outcome.next ((onZone_running hr z _).trans ?_)
    simp [State.wakeExpired, hp, ht, ha]
  · have rests : s.standbyExpired z = s.enterStandby z := by simp [State.standbyExpired, hp, ht]
    exact ⟨_, congrArg Host.Outcome.next ((onZone_running hr z _).trans rests), rfl⟩

/-! ## RESTART (R186, R201) -/

/-- A notch stands in the list a start-up sets exactly where the working copy holds it in its slot (R167). -/
theorem mem_startNotches {t : Table (Option FixedNotch) 8} {n : Notch} :
    n ∈ startNotches t ↔ ∃ fixed, t.get n.slot = some fixed
      ∧ n = { slot := n.slot, kind := .fixed fixed.width, bin := fixed.bin, depth := fixed.depth
              sinceHit := 0, fresh := true } := by
  simp only [startNotches, List.mem_filterMap, List.mem_finRange, true_and, Option.map_eq_some_iff]
  constructor
  · rintro ⟨k, fixed, hk, rfl⟩
    exact ⟨fixed, hk, rfl⟩
  · rintro ⟨fixed, hk, e⟩
    exact ⟨n.slot, fixed, hk, e.symm⟩

/-- A start-up sets a zone's notches in ascending slot order (R167). -/
theorem startNotches_ascending (t : Table (Option FixedNotch) 8) :
    ((startNotches t).map Notch.slot).Pairwise (· < ·) := by
  rw [List.pairwise_map, startNotches, List.pairwise_filterMap]
  refine List.Pairwise.imp (fun {j k} hjk m hm n hn => ?_) (List.pairwise_lt_finRange 8)
  obtain ⟨_, -, rfl⟩ := Option.map_eq_some_iff.mp hm
  obtain ⟨_, -, rfl⟩ := Option.map_eq_some_iff.mp hn
  exact hjk

theorem restartDue_of_due {s : State} (h : s.port.restart = .due) : restartDue s = restart s := by
  simp [restartDue, h]

theorem restartDue_of_not_due {s : State} (h : s.port.restart ≠ .due) : restartDue s = s := by
  unfold restartDue
  split <;> simp_all

theorem takeRestart_of_not_due {s : State} (h : s.port.restart ≠ .due) :
    takeRestart s = ({ s with port := { s.port with restart := .answering } }, plain .ok) := by
  unfold takeRestart
  split <;> simp_all [State.setPort]

theorem takeRestart_of_due {s : State} (h : s.port.restart = .due) : takeRestart s = (s, plain .ok) := by
  unfold takeRestart
  have : ({ s.port with restart := .due } : Port) = s.port := by rw [← h]
  simp [h, State.setPort, this]

/-- Settles O52: the request by where an earlier RESTART stands, then each field of the sequence's state. -/
theorem restartKeepsTheInstallation : Obligations.RestartKeepsTheInstallation := by
  unfold Obligations.RestartKeepsTheInstallation
  refine ⟨fun s hs h => exec_answered hs rfl (takeRestart_of_not_due h),
    fun s hs h => exec_answered hs rfl (takeRestart_of_due h),
    fun s hr h => congrArg Host.Outcome.next ((whenRunning_running hr _).trans (restartDue_of_not_due h)),
    fun s hr h => ⟨restart s, congrArg Host.Outcome.next ((whenRunning_running hr _).trans (restartDue_of_due h)),
      hr, rfl, rfl, rfl, rfl, rfl, rfl, rfl, fun k => ?_, fun z k => ?_, fun i d => ?_, fun z => ⟨?_, ?_⟩,
      fun z => ?_, fun z => ?_, fun k => ?_, fun k => ?_, fun z => ?_, rfl, rfl, rfl, fun p => ?_, fun i => ?_,
      fun z => ?_, rfl, fun z => ?_, ?_⟩⟩
  · exact Table.get_fill _ k
  · simp [restart, SignalEngine.restarted, SignalEngine.atPowerOn]
  · simp [restart, SignalEngine.restarted, SignalEngine.atPowerOn, lineAt]
  · exact Table.get_fill _ z
  · exact Table.get_fill _ z
  · exact Table.get_zipWith _ _ _ z
  · exact Table.get_map _ _ z
  · exact Table.get_map _ _ k
  · exact Table.get_fill _ k
  · exact Table.get_fill _ z
  · exact Table.get_fill _ p
  · exact Table.get_fill _ i
  · have ring : (restart s).ringOf z = { Ring.quiet with notches := startNotches (s.store.working.notches.get z) } :=
      Table.get_map _ _ z
    rw [ring]
    exact ⟨rfl, rfl, rfl, rfl, rfl, fun n => mem_startNotches, startNotches_ascending _⟩
  · exact Table.get_fill _ z
  · have notices : (0 : BitVec 13) ||| noticeMask .restarted = 0x1000 := by decide
    have attn : attention 0x1000 (BitVec.allOnes 13) = true := by decide
    show { Port.atStart with
        notices := 0 ||| noticeMask .restarted
        attnLow := attention (0 ||| noticeMask .restarted) (BitVec.allOnes 13) } = _
    rw [notices, attn]

end Sys2Proof.Machine

namespace Sys2Proof.Table

theorem count_eq {α : Type} {n : Nat} (p : α → Bool) (t : Table α n) :
    t.count p = ((List.finRange n).filter fun i => p (t.get i)).length := by
  have cells : t.cells = (List.finRange n).map t.get :=
    List.ext_getElem (by simp [t.size]) fun i _ _ => by simp [Table.get_eq_getElem]
  rw [Table.count, cells, List.countP_map, List.countP_eq_length_filter]
  rfl

end Sys2Proof.Table

namespace Sys2Proof.Machine
open Sys2Proof.Safety

/-! ## Operand forms of the records' requests -/

/-- An optional field that is absent or a code of its table is judged to be what it is the code of. -/
theorem optional?_code {α β : Type} {f : α → Option β} {g : β → α} (h : ∀ b, f (g b) = some b) (x : Option β) :
    optional? f (x.map g) = some x := by
  cases x <;> simp [optional?, h]

theorem optional?_refused {α β : Type} {f : α → Option β} {x : Option α} {a : α} (hx : x = some a) (h : f a = none) :
    optional? f x = none := by
  simp [optional?, hx, h]

theorem class?_code (c : InputClass) : class? (classCode c) = some c := by
  cases c <;> rfl

theorem mode?_code (m : InputMode) : mode? (modeCode m) = some m := by
  cases m <;> rfl

theorem flag?_code (b : Bool) : flag? (flagCode b) = some b := by
  cases b <;> rfl

theorem class?_outside {n : Nat} (h : 3 < n) : class? n = none := by
  unfold class?
  split <;> simp_all

theorem mode?_outside {n : Nat} (h : 2 < n) : mode? n = none := by
  unfold mode?
  split <;> simp_all

theorem listen?_code (b : BitVec 4) : listen? (b.setWidth 8) = some b := by
  revert b
  decide

theorem listen?_outside {b : Byte} (h : 15 < b.toNat) : listen? b = none := by
  refine if_neg fun e => ?_
  have : b.toNat / 16 = 0 := by simpa [BitVec.toNat_eq, Nat.shiftRight_eq_div_pow] using e
  omega

/-- A clamp of a signed quantity changes it exactly where it is present and outside its range. -/
theorem clampChanges_int {lo hi : Int} (h : lo ≤ hi) (x : Option Int) :
    clampChanges (clampInt lo hi) x = true ↔ ∃ a, x = some a ∧ (a < lo ∨ hi < a) := by
  cases x with
  | none => simp
  | some a => simp [clampChanges_some, clampInt_ne h]

theorem clampChanges_nat {lo hi : Nat} (h : lo ≤ hi) (x : Option Nat) :
    clampChanges (clampNat lo hi) x = true ↔ ∃ a, x = some a ∧ (a < lo ∨ hi < a) := by
  cases x with
  | none => simp
  | some a => simp [clampChanges_some, clampNat_ne h]

/-! ## Counting and retapping -/

/-- The number that an answer reports is that of the slots whose record is retired and was not RETIRING (R18). -/
theorem State.retiredCount_eq (s : State) (p : Route → Bool) :
    s.retiredCount p = slotCount fun k => (s.route? k).any fun r => p r && r.state ≠ .retiring := by
  rw [State.retiredCount, Table.count_eq, slotCount]
  congr 2
  funext k
  show _ = (s.engine.table.get k).any _
  cases s.engine.table.get k <;> rfl

theorem State.dueOf_congr {s t : State} (h : t.store = s.store) : t.dueOf = s.dueOf := by
  funext r
  simp [State.dueOf, State.dueDelay, State.geometricDelayOf, State.inputSettings, State.zoneSettings, h]

/-- A retirement and then a change of due delay: a retired route does not act on the change (R14, R15). -/
theorem State.retireWhere_retapWhere_route? (s : State) (p q : Route → Bool) (k : SlotIx) :
    ((s.retireWhere p).retapWhere q).route? k =
      (s.route? k).map fun r =>
        if p r then retire r else if r.live.delay = none ∧ q r then retap (s.dueOf r) r else r := by
  rw [State.retapWhere_route?, State.retireWhere_route?, Option.map_map,
    State.dueOf_congr (s := s) (t := s.retireWhere p) rfl]
  refine Option.map_congr fun r _ => ?_
  by_cases hp : p r = true
  · simp [hp, retap_of_silent (.inl (retire_state r))]
  · simp [hp]

/-! ## SET-INPUT (R116 to R119) -/

theorem inputEdit?_refused {f : InputFields}
    (h : (∃ n, f.cls = some n ∧ 3 < n) ∨ (∃ n, f.mode = some n ∧ 2 < n) ∨ (∃ n, f.precinct = some n ∧ outside 4 n)
      ∨ (∃ n, f.station = some n ∧ outside 16 n)) (v : InputSettings) : inputEdit? f v = none := by
  unfold inputEdit?
  split
  · next hc hm hp hst =>
    rcases h with ⟨n, hf, h⟩ | ⟨n, hf, h⟩ | ⟨n, hf, h⟩ | ⟨n, hf, h⟩
    · simp [optional?_refused hf (class?_outside h)] at hc
    · simp [optional?_refused hf (mode?_outside h)] at hm
    · simp [optional?_refused hf (number?_outside h)] at hp
    · simp [optional?_refused hf (number?_outside h)] at hst
  · rfl

theorem inputClamped_iff (f : InputFields) :
    inputClamped f = true ↔
      (∃ x, f.trim = some x ∧ (x < -48 ∨ 48 < x)) ∨ (∃ x, f.threshold = some x ∧ (x < -240 ∨ 0 < x))
      ∨ (∃ x, f.closedAtt = some x ∧ (x < 0 ∨ 160 < x)) ∨ ∃ x, f.hold = some x ∧ (x < 1 ∨ 4095 < x) := by
  simp only [inputClamped, Bool.or_eq_true, clampInputTrim, clampThreshold, clampClosedAtt, clampHold, or_assoc]
  rw [clampChanges_int (by decide), clampChanges_int (by decide), clampChanges_int (by decide),
    clampChanges_nat (by decide)]

section EditInput

variable (s : State) (i : InputIx) (new : InputSettings)

theorem State.editInput_store :
    (s.editInput i new).store =
      { s.store with working := { s.store.working with inputs := s.store.working.inputs.set i new } } := by
  unfold State.editInput
  dsimp only
  split <;> rfl

theorem State.editInput_gates :
    (s.editInput i new).gates = s.gates.inputEdited i (s.inputSettings i) new := by
  unfold State.editInput
  dsimp only
  split <;> rfl

theorem State.editInput_frame :
    s.editInput i new =
      { s with
        engine := { s.engine with table := (s.editInput i new).engine.table }
        gates := (s.editInput i new).gates
        store := (s.editInput i new).store } := by
  unfold State.editInput
  dsimp only
  split <;> rfl

theorem State.editInput_route? (k : SlotIx) :
    (s.editInput i new).route? k =
      (s.route? k).map fun r =>
        if r.input = i ∧ (s.inputSettings i).precinct ≠ new.precinct
            ∧ listens (s.zoneSettings r.zone).listen new.precinct = false then retire r
        else if r.input = i ∧ (s.inputSettings i).station ≠ new.station ∧ r.live.delay = none then
          retap ((s.editInput i new).dueOf r) r
        else r := by
  have due : (s.editInput i new).dueOf = ((s.setInputSettings i new).setGates
      (s.gates.inputEdited i (s.inputSettings i) new)).dueOf := State.dueOf_congr (s.editInput_store i new)
  have zone : ∀ z, ((s.setInputSettings i new).setGates (s.gates.inputEdited i (s.inputSettings i) new)).zoneSettings z
      = s.zoneSettings z := fun _ => rfl
  rw [due]
  unfold State.editInput
  dsimp only
  split
  · next e =>
    rw [State.retireWhere_route?]
    refine Option.map_congr fun r _ => if_congr (by simp [State.losesPrecinct, zone, and_assoc]) rfl (by simp [e])
  · next e =>
    rw [State.retireWhere_retapWhere_route?]
    refine Option.map_congr fun r _ => if_congr (by simp [State.losesPrecinct, zone, and_assoc]) rfl
      (if_congr (by simp only [decide_eq_true_eq]; tauto) rfl rfl)

end EditInput

@[simp] theorem GateUnit.closeMember_inputs_self (g : GateUnit) (p : PrecinctIx) (i : InputIx) :
    (g.closeMember p i).inputs.get i = (g.inputs.get i).shut :=
  Table.get_modify_self _ _ _

theorem GateUnit.closeMember_inputs_ne (g : GateUnit) (p : PrecinctIx) {i j : InputIx} (h : j ≠ i) :
    (g.closeMember p i).inputs.get j = g.inputs.get j :=
  Table.get_modify_ne _ _ (Ne.symm h)

theorem GateUnit.closeMember_lists (g : GateUnit) (p q : PrecinctIx) (i : InputIx) :
    (g.closeMember p i).lists.get q =
      if q = p then (g.lists.get q).filter (fun j => decide (j ≠ i)) else g.lists.get q := by
  split
  · next e => exact e ▸ Table.get_modify_self _ _ _
  · next e => exact Table.get_modify_ne _ _ (Ne.symm e)

/-- Settles O20: the checks of `inputEdit?`, then the fields of `State.editInput` one by one. -/
theorem setInputEditsOneInput : Obligations.SetInputEditsOneInput := by
  unfold Obligations.SetInputEditsOneInput
  refine ⟨fun s f hs => ⟨fun n h => ?_, fun h i => ?_⟩, inputClamped_iff, ?_⟩
  · exact exec_answered hs rfl (show takeSetInput n f s = (s, plain .range) by simp [takeSetInput, number?_outside h])
  · exact exec_answered hs rfl
      (show takeSetInput (i.1 + 1) f s = (s, plain .range) by simp [takeSetInput, inputEdit?_refused h])
  · rintro s i f cls mode precinct station hs hcls hmode hprecinct hstation old new rfl hnew
    have edit : inputEdit? f (s.inputSettings i) = some new := by
      simp only [inputEdit?, hcls, hmode, hprecinct, hstation, optional?_code class?_code, optional?_code mode?_code,
        optional?_number, hnew]
      rfl
    have taken : takeSetInput (i.1 + 1) f s =
        (s.editInput i new, some (if inputClamped f then .clamped else .ok,
          wordBytes (s.retiredCount (s.losesPrecinct i (s.inputSettings i) new)))) := by
      simp only [takeSetInput, number?_succ, edit]
      rfl
    rw [State.retiredCount_eq] at taken
    refine ⟨s.editInput i new, exec_answered hs rfl taken, s.editInput_store i new, s.editInput_route? i new,
      fun hm hp => ?_, fun h => ?_, s.editInput_frame i new⟩
    · rw [s.editInput_gates, GateUnit.inputEdited, if_pos ⟨hm, hp⟩]
    · rw [s.editInput_gates, GateUnit.inputEdited, if_neg (by tauto)]
      exact ⟨GateUnit.closeMember_inputs_self _ _ _, fun j hj => GateUnit.closeMember_inputs_ne _ _ hj,
        fun p => GateUnit.closeMember_lists _ _ p _⟩

/-! ## SET-ZONE (R144 to R146) -/

theorem zoneClamped_iff (f : ZoneFields) :
    zoneClamped f = true ↔
      (∃ x, f.ceiling = some x ∧ (x < -96 ∨ 48 < x)) ∨ (∃ x, f.trim = some x ∧ (x < -96 ∨ 24 < x))
      ∨ (∃ x, f.duck = some x ∧ (x < 0 ∨ 160 < x)) ∨ (∃ x, f.precedence = some x ∧ 300 < x)
      ∨ (∃ x, f.standbyDelay = some x ∧ 3600 < x) ∨ (∃ x, f.wakeTime = some x ∧ (x < 1 ∨ 50 < x))
      ∨ (∃ x, f.ringThreshold = some x ∧ (x < 24 ∨ 120 < x)) ∨ (∃ x, f.persistence = some x ∧ (x < 2 ∨ 8 < x))
      ∨ ∃ x, f.release = some x ∧ (x < 64 ∨ 65535 < x) := by
  simp only [zoneClamped, Bool.or_eq_true, clampCeiling, clampZoneTrim, clampDuck, clampPrecedence,
    clampStandbyDelay, clampWakeTime, clampRingThreshold, clampPersistence, clampRelease, or_assoc]
  rw [clampChanges_int (by decide), clampChanges_int (by decide), clampChanges_int (by decide),
    clampChanges_nat (by decide), clampChanges_nat (by decide), clampChanges_nat (by decide),
    clampChanges_int (by decide), clampChanges_nat (by decide), clampChanges_nat (by decide)]
  simp only [Nat.not_lt_zero, false_or]

theorem keyEdit?_code (key : Option KeyIx) {noKey : Bool} (held : Option KeyIx) (h : key = none ∨ noKey = false) :
    keyEdit? (key.map fun k => k.1 + 1) noKey held =
      some (if noKey then none else if key = none then held else key) := by
  cases noKey with
  | true =>
    obtain rfl : key = none := h.resolve_right (by decide)
    rfl
  | false => cases key <;> simp [keyEdit?]

theorem keyEdit?_refused {key : Option Nat} {noKey : Bool} {k : Nat} (hk : key = some k)
    (h : outside 16 k ∨ noKey = true) (held : Option KeyIx) : keyEdit? key noKey held = none := by
  subst hk
  cases noKey with
  | true => rfl
  | false => simp [keyEdit?, number?_outside (h.resolve_right (by decide))]

theorem zoneEdit?_refused {f : ZoneFields}
    (h : (∃ p, f.home = some p ∧ outside 4 p) ∨ (∃ b, f.listen = some b ∧ 15 < b.toNat)
      ∨ (∃ k, f.key = some k ∧ (outside 16 k ∨ f.noKey = true))
      ∨ (∃ x, (f.installLive = some x ∨ f.cueSafe = some x ∨ f.ringWatch = some x) ∧ 1 < x))
    (v : ZoneSettings) : zoneEdit? f v = none := by
  unfold zoneEdit?
  split
  · next hh hl hi hk hc hw =>
    rcases h with ⟨p, hf, h⟩ | ⟨b, hf, h⟩ | ⟨k, hf, h⟩ | ⟨x, hf | hf | hf, h⟩
    · simp [optional?_refused hf (number?_outside h)] at hh
    · simp [optional?_refused hf (listen?_outside h)] at hl
    · simp [keyEdit?_refused hf h] at hk
    · simp [optional?_refused hf (flag?_of_one_lt h)] at hi
    · simp [optional?_refused hf (flag?_of_one_lt h)] at hc
    · simp [optional?_refused hf (flag?_of_one_lt h)] at hw
  · rfl

/-- A change of the standby delay that reaches the timer: an ACTIVE zone whose standby timer runs, or would run but for
a delay of 0 (R146). -/
def retimed (old new : ZoneSettings) (l : ZoneLive) : Prop :=
  l.power = .active ∧ old.standbyDelay ≠ new.standbyDelay
  ∧ ((∃ n, l.timer = .standby n) ∨ (l.timer = .none ∧ l.demandPresent = false ∧ old.standbyDelay = 0))

theorem retime_of_retimed {old new : ZoneSettings} {l : ZoneLive} (h : retimed old new l) :
    retime old new l = { l with timer := standbyTimer new.standbyDelay } := by
  obtain ⟨hp, hd, ⟨n, ht⟩ | ⟨ht, hdem, hz⟩⟩ := h
  · simp [retime, hp, hd, ht]
  · simp [retime, hp, ht, hdem, hz, hz ▸ hd]

theorem retime_of_not_retimed {old new : ZoneSettings} {l : ZoneLive} (h : ¬ retimed old new l) :
    retime old new l = l := by
  unfold retime
  split
  · next hp =>
    split
    · next n ht => exact absurd ⟨hp.1, hp.2, .inl ⟨n, ht⟩⟩ h
    · next ht =>
      refine if_pos ?_
      by_contra hno
      obtain ⟨hdem, hz⟩ := not_or.mp hno
      exact h ⟨hp.1, hp.2, .inr ⟨ht, by simpa using hdem, not_not.mp hz⟩⟩
    · rfl
  · rfl

section EditZone

variable (s : State) (z : ZoneIx) (new : ZoneSettings)

theorem State.editZone_store :
    (s.editZone z new).store =
      { s.store with working := { s.store.working with zones := s.store.working.zones.set z new } } := by
  unfold State.editZone
  dsimp only
  split <;> rfl

theorem State.editZone_frame :
    s.editZone z new =
      { s with
        engine := { s.engine with table := (s.editZone z new).engine.table }
        power := { s.power with zones := (s.editZone z new).power.zones }
        store := (s.editZone z new).store } := by
  unfold State.editZone
  dsimp only
  split <;> rfl

theorem State.editZone_zones :
    (s.editZone z new).power.zones =
      s.power.zones.set z
        (retime (s.zoneSettings z) new
          ((if (s.zoneSettings z).key = new.key then s.zoneLive z
            else { s.zoneLive z with keyLive := s.keyReading new.key }).refreshLive new)) := by
  unfold State.editZone
  dsimp only
  split <;> rfl

theorem State.editZone_zoneLive :
    (s.editZone z new).zoneLive z =
      retime (s.zoneSettings z) new
        { s.zoneLive z with
          keyLive := if (s.zoneSettings z).key = new.key then (s.zoneLive z).keyLive else s.keyReading new.key
          live := new.installLive || (s.zoneLive z).controllerLive
            || if (s.zoneSettings z).key = new.key then (s.zoneLive z).keyLive else s.keyReading new.key } := by
  rw [State.zoneLive, s.editZone_zones, Table.get_set_self]
  split <;> rfl

theorem State.editZone_route? (k : SlotIx) :
    (s.editZone z new).route? k =
      (s.route? k).map fun r =>
        if r.zone = z ∧ listens (s.zoneSettings z).listen (s.inputSettings r.input).precinct = true
            ∧ listens new.listen (s.inputSettings r.input).precinct = false then retire r
        else if r.zone = z ∧ (s.zoneSettings z).precedence ≠ new.precedence ∧ r.live.delay = none then
          retap ((s.editZone z new).dueOf r) r
        else r := by
  have due : (s.editZone z new).dueOf = (s.setZoneSettings z new).dueOf :=
    State.dueOf_congr (s.editZone_store z new)
  have table : (s.editZone z new).route? k =
      (if (s.zoneSettings z).precedence = new.precedence then
        (s.setZoneSettings z new).retireWhere (s.losesListen z (s.zoneSettings z) new)
      else ((s.setZoneSettings z new).retireWhere (s.losesListen z (s.zoneSettings z) new)).retapWhere
        fun r => r.zone = z).route? k := rfl
  rw [due, table]
  split
  · next e =>
    rw [State.retireWhere_route?]
    refine Option.map_congr fun r _ => if_congr (by simp [State.losesListen, and_assoc]) rfl (by simp [e])
  · next e =>
    rw [State.retireWhere_retapWhere_route?]
    refine Option.map_congr fun r _ => if_congr (by simp [State.losesListen, and_assoc]) rfl
      (if_congr (by simp only [decide_eq_true_eq]; tauto) rfl rfl)

end EditZone

/-- Settles O25: the checks of `zoneEdit?`, then the fields of `State.editZone` one by one. -/
theorem setZoneEditsOneZone : Obligations.SetZoneEditsOneZone := by
  unfold Obligations.SetZoneEditsOneZone
  refine ⟨zoneClamped_iff, fun s hs => ⟨fun n f h => ?_, fun z f h => ?_, ?_⟩⟩
  · exact exec_answered hs rfl (show takeSetZone n f s = (s, plain .range) by simp [takeSetZone, number?_outside h])
  · exact exec_answered hs rfl
      (show takeSetZone (z.1 + 1) f s = (s, plain .range) by simp [takeSetZone, zoneEdit?_refused h])
  · rintro z f home listen install safe watch key hhome hlisten hinstall hsafe hwatch hkey hboth old new rfl hnew
    have precedence : clampPrecedence = fun x => min 300 x := funext fun x => clampNat_zero _ x
    have standby : clampStandbyDelay = fun x => min 3600 x := funext fun x => clampNat_zero _ x
    have edit : zoneEdit? f (s.zoneSettings z) = some new := by
      have hboth : key = none ∨ f.noKey = false := by simpa [hkey] using hboth
      simp only [zoneEdit?, hhome, hlisten, hinstall, hsafe, hwatch, hkey, optional?_number,
        optional?_code listen?_code, optional?_code flag?_code, keyEdit?_code key _ hboth, hnew, precedence, standby]
      rfl
    have taken : takeSetZone (z.1 + 1) f s =
        (s.editZone z new, some (if zoneClamped f then .clamped else .ok,
          wordBytes (s.retiredCount (s.losesListen z (s.zoneSettings z) new)))) := by
      simp only [takeSetZone, number?_succ, edit]
      rfl
    rw [State.retiredCount_eq] at taken
    refine ⟨s.editZone z new, exec_answered hs rfl taken, s.editZone_store z new, s.editZone_route? z new,
      fun y hy => ?_, ?_, s.editZone_frame z new⟩
    · simp [State.zoneLive, s.editZone_zones, Table.get_set_ne _ _ (Ne.symm hy)]
    · by_cases h : retimed (s.zoneSettings z) new (s.zoneLive z)
      · refine ⟨_, standbyTimer new.standbyDelay, (s.editZone_zoneLive z new).trans (retime_of_retimed h), rfl,
          fun _ => ?_, fun hn => absurd h hn⟩
        rw [standbyTimer, standbyPeriods, Nat.mul_comm]
      · exact ⟨_, (s.zoneLive z).timer, (s.editZone_zoneLive z new).trans (retime_of_not_retimed h), rfl,
          fun hr => absurd hr h, fun _ => rfl⟩

end Sys2Proof.Machine

namespace Sys2Proof.Machine
open Sys2Proof.Safety

/-! ## Analysis frames (R152) -/

theorem frameBlock_under_way {s : State} {n : Nat} (h : s.ring.blocks = some n) (hn : n + 1 < 64) :
    frameBlock s = { s.ring with blocks := some (n + 1) } := by
  simp [frameBlock, h, Nat.not_le.mpr hn]

theorem frameBlock_cut {s : State} {n : Nat} (h : s.ring.blocks = some n) (hn : 64 ≤ n + 1) :
    frameBlock s =
      { s.ring with blocks := some 0, frames := Table.zipWith cutFrame s.power.zones s.ring.frames } := by
  simp [frameBlock, h, hn]

theorem frameBlock_first {s : State} (h : s.ring.blocks = none) :
    frameBlock s = { s.ring with blocks := some 0, frames := s.power.zones.map firstFrame } := by
  simp [frameBlock, h]

theorem State.frameResult_none {s : State} {z : ZoneIx} (h : (s.ring.frames.get z).due = none) :
    s.frameResult z = s := by
  simp [State.frameResult, h]

theorem State.frameResult_some {s : State} {z : ZoneIx} {f : FrameCapture} (h : (s.ring.frames.get z).due = some f) :
    s.frameResult z = s.takeFrame z f := by
  simp [State.frameResult, h]

/-! ## A zone's frame result (R153 to R160) -/

theorem State.watched_eq_true {s : State} {z : ZoneIx} {f : FrameCapture} :
    s.watched z f = true ↔
      f.active = true ∧ (s.zoneLive z).live = true ∧ (s.zoneSettings z).ringWatch = true := by
  simp [State.watched, and_assoc]

/-- The result of a frame that is not watched: the persistence state is lost, and nothing else (R152). -/
theorem State.takeFrame_unwatched {s : State} {z : ZoneIx} {f : FrameCapture} (h : ¬ s.watched z f = true) :
    s.takeFrame z f =
      (s.setFrame z { s.ring.frames.get z with due := none }).setRing z (s.ringOf z).unwatched :=
  if_neg h

/-- The result of a watched frame: the ring fields, the halt of a zone that enters runaway, and the notices (R153 to
R160). -/
theorem State.takeFrame_watched {s : State} {z : ZoneIx} {f : FrameCapture} (h : s.watched z f = true)
    {o : FrameOutcome}
    (ho : o = (s.ringOf z).frameOutcome (s.zoneSettings z)
      (candidate? (s.zoneSettings z).ringThreshold (frameLevels f))) :
    s.takeFrame z f =
      (((if o.runaway then
          ((s.setFrame z { s.ring.frames.get z with due := none }).setRing z o.ring).haltZone z .ring
        else (s.setFrame z { s.ring.frames.get z with due := none }).setRing z o.ring).raiseIf o.ringAction
          .ringAction).raiseIf o.runaway .runaway) := by
  subst ho
  exact if_pos h

theorem State.raiseIf_notices (s : State) (c : Bool) (n : Notice) :
    (s.raiseIf c n).port.notices = s.port.notices ||| if c then noticeMask n else 0 := by
  cases c
  · simp [State.raiseIf]
  · rfl

/-- Raising touches nothing of the part but the notice set and ATTN_L (R189). -/
theorem State.raiseIf_eq (s : State) (c : Bool) (n : Notice) :
    s.raiseIf c n =
      { s with
        port :=
          { s.port with notices := (s.raiseIf c n).port.notices, attnLow := (s.raiseIf c n).port.attnLow } } := by
  cases c <;> rfl

section TakeFrame

variable {s : State} {z : ZoneIx} {f : FrameCapture} (h : s.watched z f = true) {o : FrameOutcome}
  (ho : o = (s.ringOf z).frameOutcome (s.zoneSettings z)
    (candidate? (s.zoneSettings z).ringThreshold (frameLevels f)))

include h ho

theorem State.takeFrame_ringOf (y : ZoneIx) :
    (s.takeFrame z f).ringOf y = if z = y then o.ring else s.ringOf y := by
  rw [State.takeFrame_watched h ho, State.ringOf, State.raiseIf_ring, State.raiseIf_ring]
  cases o.runaway <;> exact State.setRing_ringOf _ y z _

theorem State.takeFrame_route? (k : SlotIx) :
    (s.takeFrame z f).route? k =
      (s.route? k).map fun r => if o.runaway = true ∧ r.zone = z then halt .ring r else r := by
  rw [State.takeFrame_watched h ho, State.route?, State.raiseIf_engine, State.raiseIf_engine]
  cases o.runaway
  · simp [State.route?, State.setRing, State.setFrame]
  · simp only [true_and]
    exact State.haltZone_route? ((s.setFrame z { s.ring.frames.get z with due := none }).setRing z o.ring) z .ring k

theorem State.takeFrame_notices :
    (s.takeFrame z f).port.notices =
      s.port.notices ||| (if o.ringAction then 0x40 else 0) ||| (if o.runaway then 0x80 else 0) := by
  have ring : noticeMask .ringAction = 0x40 := by decide
  have runaway : noticeMask .runaway = 0x80 := by decide
  rw [State.takeFrame_watched h ho, State.raiseIf_notices, State.raiseIf_notices, ring, runaway]
  cases o.runaway <;> rfl

theorem State.takeFrame_frame :
    s.takeFrame z f =
      { s with
        engine := { s.engine with table := (s.takeFrame z f).engine.table }
        ring :=
          { s.ring with
            frames := s.ring.frames.set z { s.ring.frames.get z with due := none }
            zones := (s.takeFrame z f).ring.zones }
        port :=
          { s.port with
            notices := (s.takeFrame z f).port.notices
            attnLow := (s.takeFrame z f).port.attnLow } } := by
  rw [State.takeFrame_watched h ho]
  cases o.runaway <;> cases o.ringAction <;> rfl

end TakeFrame

/-! ## Levels (R153) -/

/-- A magnitude has one level. -/
theorem isLevel_unique {m : ℝ} {p q : Int} (hm : 0 ≤ m) (hp : IsLevel m p) (hq : IsLevel m q) : p = q := by
  rcases hm.eq_or_lt with e | h
  · rw [hp.1 e.symm, hq.1 e.symm]
  · rw [hp.2 h, hq.2 h]

theorem isLevel_bounds {m : ℝ} {q : Int} (hm : 0 ≤ m) (h : IsLevel m q) : -480 ≤ q ∧ q ≤ 96 := by
  rcases hm.eq_or_lt with e | hp
  · rw [h.1 e.symm]
    decide
  · rw [h.2 hp]
    omega

theorem binLevel_bounds (m : Nat) : -480 ≤ binLevel Config.transform.full m ∧ binLevel Config.transform.full m ≤ 96 :=
  isLevel_bounds (by positivity) (binLevel_isLevel transform_full_pos m)

theorem frameLevels_length (f : FrameCapture) : (frameLevels f).length = 508 := by
  unfold frameLevels
  split
  · exact List.length_replicate
  · rw [List.length_map, List.length_range]

theorem frameLevels_bounds {f : FrameCapture} {x : Int} (h : x ∈ frameLevels f) : -480 ≤ x ∧ x ≤ 96 := by
  unfold frameLevels at h
  split at h
  · rw [List.eq_of_mem_replicate h]
    decide
  · obtain ⟨k, -, rfl⟩ := List.mem_map.mp h
    exact binLevel_bounds _

/-- The level of a bin of a whole frame is that of the magnitude its samples have there. -/
theorem frameLevels_getD {f : FrameCapture} (hf : f.samples.length = 2048) {b : Nat} (h1 : 4 ≤ b) (h2 : b ≤ 511) :
    (frameLevels f).getD (b - 4) (-480) =
      binLevel Config.transform.full (Config.transform.magnitude f.samples.reverse b) :=
  isLevel_unique (by positivity) (frameLevels_isLevel hf h1 h2) (binLevel_isLevel transform_full_pos _)

/-- About half of full scale has the level −24: 80·log10 of 1/2 lies between −24.5 and −23.5. -/
theorem isLevel_of_half {m : ℝ} {q : Int} (low : 0.499 ≤ m) (high : m ≤ 0.501) (h : IsLevel m q) : q = -24 := by
  have hm : 0 < m := by linarith
  have power : 80 * Real.logb 10 m = Real.logb 10 (m ^ 160) / 2 := by
    rw [Real.logb_pow]
    push_cast
    ring
  have above : -49 ≤ Real.logb 10 (m ^ 160) := by
    rw [Real.le_logb_iff_rpow_le (by norm_num) (by positivity)]
    calc (10 : ℝ) ^ (-49 : ℝ) = (10 ^ 49)⁻¹ := by rw [Real.rpow_neg (by norm_num)]; norm_num
      _ ≤ 0.499 ^ 160 := by norm_num
      _ ≤ m ^ 160 := pow_le_pow_left₀ (by norm_num) low 160
  have below : Real.logb 10 (m ^ 160) < -47 := by
    rw [Real.logb_lt_iff_lt_rpow (by norm_num) (by positivity)]
    calc m ^ 160 ≤ 0.501 ^ 160 := pow_le_pow_left₀ hm.le high 160
      _ < (10 ^ 47)⁻¹ := by norm_num
      _ = (10 : ℝ) ^ (-47 : ℝ) := by rw [Real.rpow_neg (by norm_num)]; norm_num
  have nearest : round (80 * Real.logb 10 m) = -24 := by
    rw [round_eq, Int.floor_eq_iff, power]
    push_cast
    constructor <;> linarith
  rw [h.2 hm, nearest]
  decide

/-- Settles O35: the cutting of frames, then the branches of a frame result, then the laws of the transform. -/
theorem framesCutAndJudged : Obligations.FramesCutAndJudged := by
  unfold Obligations.FramesCutAndJudged
  refine ⟨fun s => ⟨fun n => frameBlock_under_way, ?_, fun h => ?_⟩, fun s hr => ⟨?_, fun z =>
    ⟨State.endZoneFrame_none, ?_⟩⟩, fun s z hr h => ?_, ?_, fun f => ⟨frameLevels_length f,
    fun x => frameLevels_bounds, frameLevels_silent, fun b phase x h1 h2 => ?_⟩, ?_⟩
  · rintro ⟨n, h, hn⟩
    rw [frameBlock_cut h hn]
    refine ⟨rfl, rfl, ?_⟩
    rintro z f rfl
    exact Table.get_zipWith _ _ _ z
  · rw [frameBlock_first h]
    exact ⟨rfl, rfl, fun z => Table.get_map _ _ z⟩
  · exact congrArg Host.Outcome.next (whenRunning_running hr _)
  · intro f rest h u hu
    obtain rfl : s.frameResult z = u := (onZone_running hr z _).symm.trans (Host.Outcome.next.inj hu)
    exact State.endZoneFrame_some h
  · exact congrArg Host.Outcome.next ((onZone_running hr z _).trans (State.frameResult_none h))
  · rintro s z f hr hf u rfl
    have taken : exec (.frameResult (z.1 + 1) ()) s = .next (s.takeFrame z f) :=
      congrArg Host.Outcome.next ((onZone_running hr z _).trans (State.frameResult_some hf))
    rw [taken]
    refine ⟨fun h => ?_, fun ha hl hw o ho => ?_⟩
    · rw [State.takeFrame_unwatched fun hw => ?_]
      · rfl
      · obtain ⟨ha, hl, hw⟩ := State.watched_eq_true.mp hw
        simp [ha, hl, hw] at h
    · have hw := State.watched_eq_true.mpr ⟨ha, hl, hw⟩
      exact ⟨_, rfl, (State.takeFrame_ringOf hw ho z).trans (if_pos rfl),
        fun y hy => (State.takeFrame_ringOf hw ho y).trans (if_neg (Ne.symm hy)), State.takeFrame_route? hw ho,
        State.takeFrame_notices hw ho, State.takeFrame_frame hw ho⟩
  · have whole {x : Nat → Int} (hx : f.samples.reverse = (List.range 2048).map x) : f.samples.length = 2048 := by
      simpa using congrArg List.length hx
    refine ⟨fun tone hx => ?_, fun tone hx => ?_, fun amplitude ha tone hx => ?_⟩
    · rw [frameLevels_getD (whole hx) h1 h2, hx]
      exact Config.transform.anchor b h1 h2 phase x tone
    · have near := abs_le.mp (Config.transform.sine b h1 h2 4194304 phase x (by norm_num) tone)
      rw [← hx] at near
      exact isLevel_of_half (by linarith [near.1]) (by linarith [near.2]) (frameLevels_isLevel (whole hx) h1 h2)
    · refine ⟨_, ?_, frameLevels_isLevel (whole hx) h1 h2⟩
      rw [hx]
      exact Config.transform.sine b h1 h2 amplitude phase x ha tone
  · obtain ⟨window, hw, law⟩ := Config.transform.transform
    exact ⟨window, hw, fun f b peak ideal hf h1 h2 hp hv hi => ⟨_,
      law f.samples.reverse b peak ideal (by simpa using hf) h1 h2 hp (fun v hv' => hv v (List.mem_reverse.mp hv')) hi,
      frameLevels_isLevel hf h1 h2⟩⟩

end Sys2Proof.Machine

namespace Sys2Proof.Machine
open Sys2Proof.Safety

/-! ## What a running part's work is made of

Every request and every event of a running part, but for the samples and what the control line itself does, is a run of
the elementary changes of `Work`: a law of the state is kept by all of them once each of these few keeps it. The
quantities that reach a record or the working copy are clamped there. -/

/-- What an elementary change can do to one record of the table. -/
inductive RouteAct (s : State) (r : Route) : Route → Prop
  | same : RouteAct s r r
  | retired : RouteAct s r (retire r)
  | halted (c : HaltCause) : RouteAct s r (halt c r)
  | armed : RouteAct s r { r with armed := true }
  | staged (bank : Bank) (from_ : bank = r.live ∨ bank = r.staged) (level : Option Int) (rate : Option Nat)
      (preset : Option PresetIx) (delay : DelayEdit) (arm : Bool) :
      RouteAct s r
        { r with
          staged := editBank bank (level.map clampLevel) (rate.map clampRate) preset (clampEdit delay), armed := arm }
  | retapped : RouteAct s r (retap (s.dueOf r) r)
  | released : RouteAct s r (release (s.dueOf r) r)
  | flipped : RouteAct s r (s.flipRoute r)

/-- The two ports differ in nothing that framing, the answers and the request in progress are. -/
structure SameLine (p q : Port) : Prop where
  phase : q.phase = p.phase := by rfl
  partFrame : q.partFrame = p.partFrame := by rfl
  gap : q.gap = p.gap := by rfl
  inProgress : q.inProgress = p.inProgress := by rfl
  answers : q.answers = p.answers := by rfl
  driver : q.driver = p.driver := by rfl

/-- ATTN_L is worked out afresh, or left with what it is worked out from. -/
def attnFollows (p q : Port) : Prop :=
  q.attnLow = attention q.notices q.mask ∨ q.attnLow = p.attnLow ∧ q.notices = p.notices ∧ q.mask = p.mask

/-- The clock's fields agree: what `ClockTrue` says of the clock (R177, R178). -/
def Clock.agrees (c : Clock) : Prop :=
  (c.status = .internal ↔ c.setting = .internal)
  ∧ (c.source = .house → c.status = .locked ∧ c.moving = false)
  ∧ (c.moving = true → c.status = .locked)
  ∧ (c.status = .locked → c.present = true ∧ (c.source = .house ∨ c.moving = true))
  ∧ (c.present = false → c.timePresent = 0)
  ∧ c.timePresent ≤ 48000

/-- `t` differs from `s` in none of what the range laws and the laws of the line and the signal path speak of. -/
structure Untouched (s t : State) : Prop where
  run : t.run = s.run := by rfl
  table : t.engine.table = s.engine.table := by rfl
  scan : t.engine.scan = s.engine.scan := by rfl
  zones : t.store.working.zones = s.store.working.zones := by rfl
  geometry : t.store.working.geometry = s.store.working.geometry := by rfl
  lines : t.signal.lines = s.signal.lines := by rfl
  outputs : t.signal.outputs = s.signal.outputs := by rfl
  clock : t.signal.clock = s.signal.clock := by rfl
  port : t.port = s.port := by rfl

/-- One elementary change of a running part. -/
inductive Work (s : State) : State → Prop
  | slot {k : SlotIx} {r r' : Route} (hr : s.route? k = some r) (h : RouteAct s r r') : Work s (s.setSlot k (some r'))
  | routes {f : Route → Route} (h : ∀ r, RouteAct s r (f r)) : Work s (s.mapRoutes f)
  | place (k : SlotIx) (i : InputIx) (z : ZoneIx) (level : Int) (rate : Option Nat) (preset : Option PresetIx)
      (delay : Option Nat) : Work s (s.placeAt k i z (placementBank level rate preset delay))
  | settle (counts : Table Nat 24) : Work s (s.setEngine { s.engine with table := s.settleTable, demand := counts })
  | distance (st : StationIx) (z : ZoneIx) (d : Nat) : Work s (s.setDistance st z (clampDistance d))
  | zone {z : ZoneIx} {f : ZoneFields} {v : ZoneSettings} (h : zoneEdit? f (s.zoneSettings z) = some v) :
      Work s (s.setZoneSettings z v)
  | clock {c : Clock} (h : s.signal.clock.agrees → c.agrees) : Work s (s.setClock c)
  | port {p : Port} (line : SameLine s.port p) (attn : attnFollows s.port p) : Work s (s.setPort p)
  | other {t : State} (h : Untouched s t) : Work s t

/-- A run of elementary changes. -/
abbrev Works : State → State → Prop :=
  Relation.ReflTransGen Work

theorem Works.refl (s : State) : Works s s :=
  Relation.ReflTransGen.refl

theorem Works.then {s t u : State} (h : Works s t) (w : Work t u) : Works s u :=
  Relation.ReflTransGen.tail h w

theorem Work.raise (s : State) (n : Notice) : Work s (s.raise n) :=
  .port {} (.inl rfl)

theorem Works.raise {s t : State} (h : Works s t) (n : Notice) : Works s (t.raise n) :=
  h.then (.raise t n)

theorem Works.raiseIf {s t : State} (h : Works s t) (c : Bool) (n : Notice) : Works s (t.raiseIf c n) := by
  cases c
  · exact h
  · exact h.raise n

theorem Works.other {s t u : State} (h : Works s t) (w : Untouched t u) : Works s u :=
  h.then (.other w)

theorem Works.retapWhere {s t : State} (h : Works s t) (p : Route → Bool) : Works s (t.retapWhere p) :=
  h.then (.routes fun r => by
    split
    · exact .retapped
    · exact .same)

theorem Works.retireWhere {s t : State} (h : Works s t) (p : Route → Bool) : Works s (t.retireWhere p) :=
  h.then (.routes fun r => by
    split
    · exact .retired
    · exact .same)

theorem Works.haltZone {s t : State} (h : Works s t) (z : ZoneIx) (c : HaltCause) : Works s (t.haltZone z c) :=
  h.then (.routes fun r => by
    split
    · exact .halted c
    · exact .same)

theorem Works.setZoneLive {s t : State} (h : Works s t) (z : ZoneIx) (l : ZoneLive) : Works s (t.setZoneLive z l) :=
  h.other {}

theorem Works.setRing {s t : State} (h : Works s t) (z : ZoneIx) (v : Ring) : Works s (t.setRing z v) :=
  h.other {}

theorem Works.breakFrame {s t : State} (h : Works s t) (z : ZoneIx) : Works s (t.breakFrame z) :=
  h.other {}

theorem RouteAct.of_cleared {s : State} {r r' : Route} (h : s.cleared r = .ok r') : RouteAct s r r' := by
  obtain rfl | ⟨-, -, -, rfl⟩ := State.cleared_ok h
  · exact .same
  · exact .released

theorem RouteAct.of_stageArm (s : State) (r : Route) (level : Option Int) (rate : Option Nat)
    (preset : Option PresetIx) (delay : DelayEdit) : RouteAct s r (stageArm level rate preset delay r) :=
  .staged r.live (.inl rfl) level rate preset delay true

theorem RouteAct.of_sweepRoute {s : State} {act : SweepAction} {r r' : Route} (h : s.sweepRoute act r = .ok r') :
    RouteAct s r r' := by
  obtain rfl | rfl | hc | rfl | ⟨-, rfl | ⟨v, rfl⟩⟩ := State.sweepRoute_ok h
  · exact .retired
  · exact .halted _
  · exact .of_cleared hc
  · exact .same
  · exact .armed
  · exact .of_stageArm s r _ _ _ _

/-! ## The requests' work -/

/-- How an owner takes a request of a KIND: it works and answers, or it begins a scan that echoes the KIND (R93). -/
inductive Taken (kind : Byte) (s : State) : State × Reply → Prop
  | answered {t : State} {st : Status} {body : List Byte} (h : Works s t) : Taken kind s (t, some (st, body))
  | started {sc : Scan} (h : sc.job.kind = kind) :
      Taken kind s (s.setEngine { s.engine with scan := some sc }, none)

theorem Taken.same {kind : Byte} {s : State} {st : Status} {body : List Byte} : Taken kind s (s, some (st, body)) :=
  .answered (.refl s)

theorem Taken.slot {kind : Byte} {s : State} {k : SlotIx} {r r' : Route} (hr : s.route? k = some r)
    (h : RouteAct s r r') {st : Status} {body : List Byte} : Taken kind s (s.setSlot k (some r'), some (st, body)) :=
  .answered ((Works.refl s).then (.slot hr h))

theorem onRoute_taken {kind : Byte} {s : State} {act : SlotIx → Route → State → State × Reply}
    (h : ∀ k r, s.route? k = some r → Taken kind s (act k r s)) (name : RouteName) :
    Taken kind s (onRoute name act s) := by
  unfold onRoute
  split
  · next hk => exact h _ _ (State.findRoute_ok hk)
  · exact .same

theorem takePlaceRoute_taken (kind : Byte) (input zone : Nat) (level : Int) (rate preset delay : Option Nat)
    (s : State) : Taken kind s (takePlaceRoute input zone level rate preset delay s) := by
  unfold takePlaceRoute
  split
  · split
    · exact .same
    · split
      · exact .same
      · unfold heldKeyReply
        split
        · split <;> exact .same
        · exact .same
      · exact .same
      · exact .answered ((Works.refl s).then (.place _ _ _ _ _ _ _))
  · exact .same

theorem takeRetireRoute_taken (kind : Byte) (name : RouteName) (s : State) :
    Taken kind s (takeRetireRoute name s) :=
  onRoute_taken (fun k r hr => by
    split
    · exact .same
    · exact .slot hr .retired) name

/-- A delay edit that a request carries is clamped. -/
theorem delayEdit?_clamped {delay : Option Nat} {geometric : Bool} {d : DelayEdit}
    (h : delayEdit? delay geometric = some d) : clampEdit d = d := by
  unfold delayEdit? at h
  split at h <;> cases h
  · rfl
  · rfl
  · simp only [clampEdit, clampDelay, clampNat_zero, min_self, ← min_assoc]

theorem takeStageRoute_taken (kind : Byte) (name : RouteName) (base : Nat) (f : StageFields) (s : State) :
    Taken kind s (takeStageRoute name base f s) := by
  unfold takeStageRoute
  split
  · next keep p d _ _ hd =>
    refine onRoute_taken (fun k r hr => ?_) name
    split
    · exact .same
    · split
      · exact .same
      · refine .slot hr ?_
        have act := RouteAct.staged (s := s) (r := r) (if keep then r.staged else r.live) (by cases keep <;> simp)
          f.level f.rate p d r.armed
        rwa [delayEdit?_clamped hd] at act
  · exact .same

theorem takeArmRoute_taken (kind : Byte) (name : RouteName) (s : State) : Taken kind s (takeArmRoute name s) :=
  onRoute_taken (fun k r hr => by
    split
    · exact .same
    · split
      · exact .same
      · exact .slot hr .armed) name

theorem takeHaltRoute_taken (kind : Byte) (name : RouteName) (s : State) : Taken kind s (takeHaltRoute name s) :=
  onRoute_taken (fun k r hr => by
    split
    · exact .same
    · exact .slot hr (.halted _)) name

theorem takeClearRoute_taken (kind : Byte) (name : RouteName) (s : State) : Taken kind s (takeClearRoute name s) :=
  onRoute_taken (fun k r hr => by
    split
    · next hc => exact .slot hr (.of_cleared hc)
    · exact .same) name

theorem takeWriteCue_taken (kind : Byte) (cue : Nat) (form : CueForm) (s : State) :
    Taken kind s (takeWriteCue cue form s) := by
  have written : ∀ c v, Works s (s.setCue c v) := fun _ _ => (Works.refl s).other {}
  unfold takeWriteCue
  split
  · exact .same
  · split
    · exact .same
    · split
      · exact .same
      · exact .answered (written _ _)
  · split
    · exact .same
    · split
      · exact .same
      · exact .answered (written _ _)

theorem takeFireCue_taken (kind : Byte) (cue : Nat) (s : State) : Taken kind s (takeFireCue cue s) := by
  unfold takeFireCue
  split
  · exact .same
  · split
    · exact .same
    · split
      · exact .same
      · exact .answered ((Works.refl s).other {})

theorem takeFindRoutes_taken (start : SlotIx) (count mode : Nat) (sel : SelectorForm) (s : State) :
    Taken Kind.findRoutes s (takeFindRoutes start count mode sel s) := by
  unfold takeFindRoutes
  split
  · split
    · exact .same
    · exact .started rfl
  · exact .same

theorem takeSweepRoutes_taken (start : SlotIx) (count action : Nat) (sel : SelectorForm) (level : Option Int)
    (s : State) : Taken Kind.sweepRoutes s (takeSweepRoutes start count action sel level s) := by
  unfold takeSweepRoutes
  split
  · split
    · exact .same
    · exact .started rfl
  · exact .same

theorem State.editInput_works (s : State) (i : InputIx) (new : InputSettings) : Works s (s.editInput i new) := by
  have written : Works s ((s.setInputSettings i new).setGates (s.gates.inputEdited i (s.inputSettings i) new)) :=
    (Works.refl s).other {}
  unfold State.editInput
  dsimp only
  split
  · exact written.retireWhere _
  · exact (written.retireWhere _).retapWhere _

theorem takeSetInput_taken (kind : Byte) (input : Nat) (f : InputFields) (s : State) :
    Taken kind s (takeSetInput input f s) := by
  unfold takeSetInput
  split
  · exact .same
  · split
    · exact .same
    · exact .answered (s.editInput_works _ _)

theorem takeSetPrecinct_taken (kind : Byte) (precinct : Nat) (maxnom lastOn : Option Nat) (s : State) :
    Taken kind s (takeSetPrecinct precinct maxnom lastOn s) := by
  unfold takeSetPrecinct
  split
  · exact .answered ((Works.refl s).other {})
  · exact .same

theorem State.editZone_works {s : State} {z : ZoneIx} {f : ZoneFields} {new : ZoneSettings}
    (h : zoneEdit? f (s.zoneSettings z) = some new) : Works s (s.editZone z new) := by
  have written : Works s (s.setZoneSettings z new) := (Works.refl s).then (.zone h)
  unfold State.editZone
  dsimp only
  split
  · exact (written.retireWhere _).setZoneLive _ _
  · exact ((written.retireWhere _).retapWhere _).setZoneLive _ _

theorem takeSetZone_taken (kind : Byte) (zone : Nat) (f : ZoneFields) (s : State) :
    Taken kind s (takeSetZone zone f s) := by
  unfold takeSetZone
  split
  · exact .same
  · split
    · exact .same
    · next h => exact .answered (State.editZone_works h)

theorem takeZoneLive_taken (kind : Byte) (zone setting : Nat) (s : State) :
    Taken kind s (takeZoneLive zone setting s) := by
  unfold takeZoneLive
  split
  · split
    · exact .same
    · exact .answered ((Works.refl s).setZoneLive _ _)
  · exact .same

theorem takeSetGeometry_taken (kind : Byte) (station zone distance : Nat) (s : State) :
    Taken kind s (takeSetGeometry station zone distance s) := by
  unfold takeSetGeometry
  split
  · exact .answered (((Works.refl s).then (.distance _ _ _)).retapWhere _)
  · exact .same

theorem State.setNotches_works (s : State) (z : ZoneIx) (ns : List Notch) : Works s (s.setNotches z ns) :=
  (Works.refl s).other {}

theorem takePinNotch_taken (kind : Byte) (zone bin : Nat) (depth : Int) (width : Nat) (s : State) :
    Taken kind s (takePinNotch zone bin depth width s) := by
  unfold takePinNotch
  split
  · exact .same
  · split
    · exact .same
    · split
      · exact .answered (s.setNotches_works _ _)
      · exact .same

theorem takeDropNotch_taken (kind : Byte) (zone slot : Nat) (s : State) :
    Taken kind s (takeDropNotch zone slot s) := by
  unfold takeDropNotch
  split
  · split
    · exact .answered (s.setNotches_works _ _)
    · exact .same
  · exact .same

/-- A change of the setting keeps the clock's fields in agreement (R179). -/
theorem Clock.withSetting_agrees {c : Clock} (h : c.agrees) (v : ClockSetting) : (c.withSetting v).agrees := by
  obtain ⟨status, source, moving, locked, absent, second⟩ := h
  unfold Clock.withSetting
  split
  · exact ⟨status, source, moving, locked, absent, second⟩
  · next changes =>
    cases v with
    | internal => exact ⟨by simp, by simp, by simp, by simp, absent, second⟩
    | follow =>
      have internal : c.status = .internal := by
        rw [status]
        cases hc : c.setting
        · rfl
        · exact absurd hc changes
      have still : c.source ≠ .house := fun e => by simp [internal] at source; exact source e
      dsimp only
      split
      · next present => exact ⟨by simp, by simp [still], by simp, by simp [present.1], absent, second⟩
      · exact ⟨by simp, by simp [still], by simpa [internal] using moving, by simp, absent, second⟩

theorem takeSetClock_taken (kind : Byte) (setting : Nat) (s : State) : Taken kind s (takeSetClock setting s) := by
  unfold takeSetClock
  split
  · exact .same
  · exact .answered ((Works.refl s).then (.clock fun h => Clock.withSetting_agrees h _))

theorem takeSetNoticeMask_taken (kind : Byte) (word : Word16) (s : State) :
    Taken kind s (takeSetNoticeMask word s) := by
  unfold takeSetNoticeMask
  split
  · exact .same
  · exact .answered ((Works.refl s).then (.port {} (.inl rfl)))

theorem takeStore_taken (kind : Byte) (s : State) : Taken kind s (takeStore s) := by
  unfold takeStore
  split
  · exact .same
  · exact .answered ((Works.refl s).other {})

/-- Every owner works and answers, or begins a scan that echoes the request's KIND. -/
theorem ownerOf_taken {i : Instr} {owner : State → State × Reply} {kind : Byte} (h : ownerOf i = some owner)
    (hk : (requestBody i).map Prod.fst = some kind) (s : State) : Taken kind s (owner s) := by
  cases i <;> cases h
  case placeRoute => exact takePlaceRoute_taken kind _ _ _ _ _ _ s
  case readRoute => exact onRoute_taken (fun _ _ _ => .same) _
  case retireRoute => exact takeRetireRoute_taken kind _ s
  case stageRoute => exact takeStageRoute_taken kind _ _ _ s
  case armRoute => exact takeArmRoute_taken kind _ s
  case haltRoute => exact takeHaltRoute_taken kind _ s
  case clearRoute => exact takeClearRoute_taken kind _ s
  case writeCue => exact takeWriteCue_taken kind _ _ s
  case readCue =>
    unfold takeReadCue
    split
    · exact .same
    · split <;> exact .same
  case fireCue => exact takeFireCue_taken kind _ s
  case readCueQueue => exact .same
  case readCueResult => unfold takeReadCueResult; split <;> exact .same
  case findRoutes =>
    obtain rfl := Option.some.inj hk
    exact takeFindRoutes_taken _ _ _ _ s
  case sweepRoutes =>
    obtain rfl := Option.some.inj hk
    exact takeSweepRoutes_taken _ _ _ _ _ s
  case setInput => exact takeSetInput_taken kind _ _ s
  case readInput => unfold takeReadInput; split <;> exact .same
  case setPrecinct => exact takeSetPrecinct_taken kind _ _ _ s
  case readPrecinct => unfold takeReadPrecinct; split <;> exact .same
  case setZone => exact takeSetZone_taken kind _ _ s
  case readZone =>
    unfold takeReadZone
    split
    · exact .same
    · exact .answered ((Works.refl s).other {})
  case zoneLive => exact takeZoneLive_taken kind _ _ s
  case setGeometry => exact takeSetGeometry_taken kind _ _ _ s
  case readGeometry => unfold takeReadGeometry; split <;> exact .same
  case pinNotch => exact takePinNotch_taken kind _ _ _ _ s
  case dropNotch => exact takeDropNotch_taken kind _ _ s
  case readNotches => unfold takeReadNotches; split <;> exact .same
  case clearRing =>
    unfold takeClearRing
    split
    · exact .same
    · exact .answered ((Works.refl s).setRing _ _)
  case setEq =>
    unfold takeSetEq
    split
    · exact .answered ((Works.refl s).other {})
    · exact .same
  case readEq => unfold takeReadEq; split <;> exact .same
  case setClock => exact takeSetClock_taken kind _ s
  case readClock => exact .same
  case notices => exact .answered ((Works.refl s).then (.port {} (.inl rfl)))
  case setNoticeMask => exact takeSetNoticeMask_taken kind _ s
  case store => exact takeStore_taken kind s
  case restart => exact .answered ((Works.refl s).then (.port {} (.inr ⟨rfl, rfl, rfl⟩)))

/-! ## The KIND of a request

A body spells only requests of the KIND whose layout it is read by (10.6). -/

/-- The KIND of a request's frame. -/
def kindOf (i : Instr) : Option Byte :=
  (requestBody i).map Prod.fst

/-- Whatever the reader reads has the property. -/
def Gives {α : Type} (P : α → Prop) (f : Reader α) : Prop :=
  ∀ bs a rest, f bs = some (a, rest) → P a

theorem Gives.of_pure {α : Type} {P : α → Prop} {a : α} (h : P a) : Gives P (pure a : Reader α) := by
  intro bs b rest e
  obtain ⟨rfl, -⟩ := Prod.mk.inj (Option.some.inj e)
  exact h

theorem Gives.of_bind {α β : Type} {P : β → Prop} {f : Reader α} {g : α → Reader β} (h : ∀ a, Gives P (g a)) :
    Gives P (f >>= g) := by
  intro bs b rest e
  obtain ⟨⟨a, cs⟩, -, hg⟩ := Option.bind_eq_some_iff.mp e
  exact h a cs b rest hg

theorem Gives.of_ite {α : Type} {P : α → Prop} {c : Prop} [Decidable c] {f g : Reader α} (hf : Gives P f)
    (hg : Gives P g) : Gives P (if c then f else g) := by
  split
  · exact hf
  · exact hg

theorem readOne_gives {P : Instr → Prop} {f : Nat → Instr} (h : ∀ n, P (f n)) : Gives P (readOne f) :=
  .of_bind fun n => .of_pure (h n)

theorem readTwo_gives {P : Instr → Prop} {f : Nat → Nat → Instr} (h : ∀ m n, P (f m n)) : Gives P (readTwo f) :=
  .of_bind fun m => .of_bind fun n => .of_pure (h m n)

theorem readNamed_gives {P : Instr → Prop} {f : RouteName → Instr} (h : ∀ n, P (f n)) : Gives P (readNamed f) :=
  .of_bind fun n => .of_pure (h n)

theorem readPlaceRoute_gives : Gives (fun i => kindOf i = some Kind.placeRoute) readPlaceRoute :=
  .of_bind fun _ => .of_bind fun _ => .of_bind fun _ => .of_bind fun _ => .of_bind fun _ => .of_bind fun _ =>
    .of_bind fun _ => .of_pure rfl

theorem readStageRoute_gives : Gives (fun i => kindOf i = some Kind.stageRoute) readStageRoute :=
  .of_bind fun _ => .of_bind fun _ => .of_bind fun _ => .of_bind fun _ => .of_bind fun _ => .of_bind fun _ =>
    .of_bind fun _ => .of_pure rfl

theorem readWriteCue_gives : Gives (fun i => kindOf i = some Kind.writeCue) readWriteCue :=
  .of_bind fun _ => .of_bind fun _ => .of_ite (.of_pure rfl) <|
    .of_bind fun _ => .of_bind fun _ => .of_bind fun _ => .of_pure rfl

theorem readFindRoutes_gives : Gives (fun i => kindOf i = some Kind.findRoutes) readFindRoutes :=
  .of_bind fun _ => .of_bind fun _ => .of_bind fun _ => .of_bind fun _ => .of_pure rfl

theorem readSweepRoutes_gives : Gives (fun i => kindOf i = some Kind.sweepRoutes) readSweepRoutes :=
  .of_bind fun _ => .of_bind fun _ => .of_bind fun _ => .of_bind fun _ => .of_bind fun _ => .of_pure rfl

theorem readSetInput_gives : Gives (fun i => kindOf i = some Kind.setInput) readSetInput :=
  .of_bind fun _ => .of_bind fun _ => .of_bind fun _ => .of_bind fun _ => .of_bind fun _ => .of_bind fun _ =>
    .of_bind fun _ => .of_bind fun _ => .of_bind fun _ => .of_bind fun _ => .of_pure rfl

theorem readSetPrecinct_gives : Gives (fun i => kindOf i = some Kind.setPrecinct) readSetPrecinct :=
  .of_bind fun _ => .of_bind fun _ => .of_bind fun _ => .of_bind fun _ => .of_pure rfl

theorem readSetZone_gives : Gives (fun i => kindOf i = some Kind.setZone) readSetZone :=
  .of_bind fun _ => .of_bind fun _ => .of_bind fun _ => .of_bind fun _ => .of_bind fun _ => .of_bind fun _ =>
    .of_bind fun _ => .of_bind fun _ => .of_bind fun _ => .of_bind fun _ => .of_bind fun _ => .of_bind fun _ =>
    .of_bind fun _ => .of_bind fun _ => .of_bind fun _ => .of_bind fun _ => .of_bind fun _ => .of_bind fun _ =>
    .of_pure rfl

theorem readSetGeometry_gives : Gives (fun i => kindOf i = some Kind.setGeometry) readSetGeometry :=
  .of_bind fun _ => .of_bind fun _ => .of_bind fun _ => .of_pure rfl

theorem readPinNotch_gives : Gives (fun i => kindOf i = some Kind.pinNotch) readPinNotch :=
  .of_bind fun _ => .of_bind fun _ => .of_bind fun _ => .of_bind fun _ => .of_pure rfl

theorem readSetEq_gives : Gives (fun i => kindOf i = some Kind.setEq) readSetEq :=
  .of_bind fun _ => .of_bind fun _ => .of_pure rfl

theorem readSetNoticeMask_gives : Gives (fun i => kindOf i = some Kind.setNoticeMask) readSetNoticeMask :=
  .of_bind fun _ => .of_bind fun _ => .of_pure rfl

/-- Each row of the KIND table reads requests of its own KIND. -/
theorem bodyReaders_gives : ∀ row ∈ bodyReaders, Gives (fun i => kindOf i = some row.1) row.2 := by
  simp only [bodyReaders, List.forall_mem_cons, List.not_mem_nil, false_implies, implies_true, and_true]
  exact ⟨readPlaceRoute_gives, readNamed_gives fun _ => rfl, readNamed_gives fun _ => rfl, readStageRoute_gives,
    readNamed_gives fun _ => rfl, readNamed_gives fun _ => rfl, readNamed_gives fun _ => rfl, readWriteCue_gives,
    readOne_gives fun _ => rfl, readOne_gives fun _ => rfl, .of_pure rfl, .of_pure rfl, readFindRoutes_gives,
    readSweepRoutes_gives, readSetInput_gives, readOne_gives fun _ => rfl, readSetPrecinct_gives,
    readOne_gives fun _ => rfl, readSetZone_gives, readOne_gives fun _ => rfl, readTwo_gives fun _ _ => rfl,
    readSetGeometry_gives, readTwo_gives fun _ _ => rfl, readPinNotch_gives, readTwo_gives fun _ _ => rfl,
    readOne_gives fun _ => rfl, readOne_gives fun _ => rfl, readSetEq_gives, readOne_gives fun _ => rfl,
    readOne_gives fun _ => rfl, .of_pure rfl, .of_pure rfl, readSetNoticeMask_gives, .of_pure rfl, .of_pure rfl⟩

theorem parseBody_kind {kind : Byte} {body : List Byte} {i : Instr} (h : parseBody kind body = some i) :
    kindOf i = some kind := by
  unfold parseBody at h
  split at h
  · simp at h
  · next f hf =>
    split at h
    · next j hj =>
      obtain rfl := Option.some.inj h
      obtain ⟨front, back, rows, -⟩ := List.lookup_eq_some_iff.mp hf
      exact bodyReaders_gives (kind, f) (by simp [rows]) _ _ _ hj
    · simp at h
    · simp at h

/-- The meaning of a request row is its owner's behind the port, under the KIND of its frame. -/
theorem exec_request {i : Instr} {owner : State → State × Reply} (h : ownerOf i = some owner) :
    ∃ kind, kindOf i = some kind ∧ ∀ s, exec i s = .next (onRequest kind owner s) := by
  cases i <;> cases h
  case writeCue c form => cases form <;> exact ⟨_, rfl, fun _ => rfl⟩
  all_goals exact ⟨_, rfl, fun _ => rfl⟩

/-! ## A frame that arrives -/

/-- What a complete frame that reaches the port does: some work and an answer handed on, or a scan begun where no
request is in progress (R185, R186). -/
inductive Arrived (s : State) : State → Prop
  | answered {t : State} (h : Works s t) (a : Answer) : Arrived s (t.hand a)
  | started (free : s.port.inProgress = none) (sc : Scan) :
      Arrived s
        ((s.setEngine { s.engine with scan := some sc }).setPort
          { s.port with inProgress := some { kind := sc.job.kind, scan := true } })

theorem takeRequest_arrived {owner : State → State × Reply} {kind : Byte} {s : State} (h : Taken kind s (owner s)) :
    Arrived s (takeRequest kind owner s) := by
  unfold takeRequest
  split
  · exact .answered (.refl s) _
  · next free =>
    generalize owner s = o at h
    cases h with
    | answered h => exact .answered h _
    | @started sc hk =>
      subst hk
      exact .started free sc

theorem takeFrame_arrived (kind : Byte) (body : List Byte) (s : State) : Arrived s (takeFrame kind body s) := by
  unfold takeFrame
  split
  · exact .answered (.refl s) _
  · exact .answered (.refl s) _
  · exact .answered (.refl s) _
  · next ho =>
    obtain ⟨i, hi, ho⟩ := Option.bind_eq_some_iff.mp ho
    exact takeRequest_arrived (ownerOf_taken ho (parseBody_kind hi) s)

theorem completeFrame_arrived {bytes : List Byte} (h : 2 ≤ bytes.length) (s : State) :
    Arrived s (completeFrame bytes s) := by
  unfold completeFrame
  split
  · split
    · exact takeFrame_arrived _ _ s
    · exact .answered (.refl s) _
  · simp at h
  · simp at h

/-! ## The events' work -/

theorem State.enterWaking_works (s : State) (z : ZoneIx) : Works s (s.enterWaking z) :=
  ((Works.refl s).setZoneLive _ _).raise _

theorem State.enterActive_works (s : State) (z : ZoneIx) : Works s (s.enterActive z) :=
  ((Works.refl s).setZoneLive _ _).raise _

theorem State.enterStandby_works (s : State) (z : ZoneIx) : Works s (s.enterStandby z) :=
  (((Works.refl s).setZoneLive _ _).breakFrame z).raise _

theorem State.enterFault_works (s : State) (z : ZoneIx) : Works s (s.enterFault z) :=
  (((((Works.refl s).setZoneLive _ _).breakFrame z).haltZone z .zoneFault).raise _).raise _

theorem State.wakeExpired_works (s : State) (z : ZoneIx) : Works s (s.wakeExpired z) := by
  unfold State.wakeExpired
  split
  · split
    · exact s.enterActive_works z
    · exact s.enterFault_works z
  all_goals exact .refl s

theorem State.standbyExpired_works (s : State) (z : ZoneIx) : Works s (s.standbyExpired z) := by
  unfold State.standbyExpired
  split
  · exact s.enterStandby_works z
  all_goals exact .refl s

theorem State.ampSettled_works (s : State) (z : ZoneIx) : Works s (s.ampSettled z) := by
  have settled : ∀ l, Works s (s.setAmp z l) := fun _ => (Works.refl s).other {}
  unfold State.ampSettled
  split
  · exact .refl s
  · dsimp only
    split
    · exact (settled _).trans (State.enterFault_works _ z)
    · exact (settled _).trans (State.enterFault_works _ z)
    · exact (settled _).trans (State.enterStandby_works _ z)
    all_goals exact settled _

theorem State.keySettled_works (s : State) (k : KeyIx) : Works s (s.keySettled k) := by
  unfold State.keySettled
  split
  · exact .refl s
  · exact (Works.refl s).other {}

theorem State.takeFrame_works (s : State) (z : ZoneIx) (f : FrameCapture) : Works s (s.takeFrame z f) := by
  have taken : Works s (s.setFrame z { s.ring.frames.get z with due := none }) := (Works.refl s).other {}
  refine taken.trans ?_
  unfold State.takeFrame
  dsimp only
  generalize s.setFrame z { s.ring.frames.get z with due := none } = t
  split
  · refine Works.raiseIf (Works.raiseIf ?_ _ _) _ _
    split
    · exact ((Works.refl t).setRing _ _).haltZone _ _
    · exact (Works.refl t).setRing _ _
  · exact (Works.refl t).setRing _ _

theorem State.frameResult_works (s : State) (z : ZoneIx) : Works s (s.frameResult z) := by
  unfold State.frameResult
  split
  · exact s.takeFrame_works z _
  · exact .refl s

theorem State.endZoneFrame_works (s : State) (z : ZoneIx) : Works s (s.endZoneFrame z) := by
  unfold State.endZoneFrame
  split
  · exact .refl s
  · exact (s.frameResult_works z).other {}

theorem endFrame_works (s : State) : Works s (endFrame s) :=
  List.foldlRecOn _ _ (Works.refl s) fun t h z _ => h.trans (t.endZoneFrame_works z)

theorem endWrite_works (left : WorkingCopy → FlashImage) (n : Notice) (s : State) : Works s (endWrite left n s) := by
  unfold endWrite
  split
  · exact ((Works.refl s).other {}).raise n
  · exact .refl s

theorem clockLost_works (s : State) : Works s (clockLost s) := by
  unfold clockLost
  dsimp only
  split
  · next hs =>
    refine ((Works.refl s).then (.clock fun h => ?_)).raise _
    obtain ⟨status, -, -, -, -, -⟩ := h
    exact ⟨by simpa [hs] using status, by simp, by simp, by simp, by simp, by simp⟩
  case h_4 => exact .refl s
  all_goals
    next hs =>
      refine (Works.refl s).then (.clock fun h => ?_)
      obtain ⟨status, source, moving, -, -, -⟩ := h
      exact ⟨status, source, moving, by simp [hs], by simp, by simp⟩

theorem clockReturned_works (s : State) : Works s (clockReturned s) := by
  unfold clockReturned
  split
  · exact .refl s
  · refine (Works.refl s).then (.clock fun h => ?_)
    obtain ⟨status, source, moving, locked, -, -⟩ := h
    exact ⟨status, source, moving, fun e => ⟨rfl, (locked e).2⟩, by simp, by simp⟩

theorem clockLock_works (s : State) : Works s (clockLock s) := by
  unfold clockLock
  dsimp only
  split
  · next hp hs =>
    refine ((Works.refl s).then (.clock fun h => ?_)).raise _
    obtain ⟨status, source, -, -, -, -⟩ := h
    exact ⟨by simpa [hs] using status, by simpa [hs] using source, by simp, by simp [hp], by simp [hp],
      by simp [oneSecond]⟩
  case h_4 => exact .refl s
  all_goals
    next hp _ =>
      refine (Works.refl s).then (.clock fun h => ?_)
      obtain ⟨status, source, moving, locked, -, -⟩ := h
      exact ⟨status, source, moving, locked, by simp [hp], by simp [oneSecond]⟩

theorem clockMove_works (s : State) : Works s (clockMove s) := by
  unfold clockMove
  split
  · next hm =>
    refine (Works.refl s).then (.clock fun h => ?_)
    obtain ⟨status, -, moving, locked, absent, second⟩ := h
    exact ⟨status, fun _ => ⟨moving hm, rfl⟩, by simp, fun e => ⟨(locked e).1, .inl rfl⟩, absent, second⟩
  · exact .refl s

theorem clockMoveDue_works (s : State) : Works s (clockMoveDue s) := by
  unfold clockMoveDue
  split
  · exact clockMove_works s
  · exact .refl s

/-! ## A block completion's work -/

theorem flipStep_works (s : State) : Works s (flipStep s) :=
  ((Works.refl s).then (.routes fun _ => .flipped)).raiseIf _ _

theorem State.cueRestage_works {s t : State} {k : SlotIx} {level : Option Int} {rate : Option Nat}
    {preset : Option PresetIx} {delay : DelayEdit}
    (h : s.cueRestage k (stageArm level rate preset delay) = .ok t) : Works s t := by
  obtain ⟨r, hr, -, rfl⟩ := State.cueRestage_ok h
  exact (Works.refl s).then (.slot hr (.of_stageArm s r level rate preset delay))

theorem State.applyEntry_works {s t : State} {c : CueIx} {e : CueEntry} {hs : List Handed}
    (h : s.applyEntry c e = .ok (t, hs)) : Works s t := by
  cases e with
  | place i z level rate preset delay =>
    obtain ⟨u, hu, he⟩ := exceptMap_eq_ok h
    obtain ⟨rfl, -⟩ := Prod.mk.inj he
    obtain ⟨-, ⟨k, edit, hr⟩ | ⟨k, -, -, rfl⟩⟩ := State.cuePlace_ok (State.inCueZone_ok hu).2.2
    · exact State.cueRestage_works hr
    · exact (Works.refl s).then (.place k i z level rate preset delay)
  | set i z level rate preset delay =>
    obtain ⟨u, hu, he⟩ := exceptMap_eq_ok h
    obtain ⟨rfl, -⟩ := Prod.mk.inj he
    have acted := (State.inCueZone_ok hu).2.2
    split at acted
    · simp at acted
    · exact State.cueRestage_works acted
  | retire i z =>
    obtain ⟨u, hu, he⟩ := exceptMap_eq_ok h
    obtain ⟨rfl, -⟩ := Prod.mk.inj he
    obtain ⟨k, r, hr, rfl⟩ := State.cueRetire_ok (State.inCueZone_ok hu).2.2
    exact (Works.refl s).then (.slot hr .retired)
  | zone z on =>
    obtain ⟨u, hu, he⟩ := exceptMap_eq_ok h
    obtain ⟨rfl, -⟩ := Prod.mk.inj he
    obtain rfl := Except.ok.inj (State.inCueZone_ok hu).2.2
    exact .refl _
  | notify =>
    obtain ⟨rfl, -⟩ := Prod.mk.inj (Except.ok.inj h)
    have noted : Works s (s.setPort { s.port with lastNotify := some c }) :=
      (Works.refl s).then (.port {} (.inr ⟨rfl, rfl, rfl⟩))
    exact noted.raise _

theorem takeCue_works (s : State) : Works s (takeCue s).1 := by
  unfold takeCue
  split
  · exact .refl s
  · next c rest _ =>
    have popped : Works s (s.setEngine { s.engine with queue := rest }) := (Works.refl s).other {}
    have applied := popped.trans (applyEntries_induct (R := Works) (c := c) Works.refl (fun _ _ _ h g => h.trans g)
      (fun _ _ _ _ => State.applyEntry_works) 0 (s.entriesOf c) (s.setEngine { s.engine with queue := rest })
      { result := { cue := c, applied := 0, skipped := 0, firstSkip := none }, handed := [] })
    exact ((Works.other applied {}).raise _).raiseIf _ _

theorem takeHanded_works (s : State) (hs : List Handed) : Works s (takeHanded s hs) :=
  List.foldlRecOn _ _ (Works.refl s) fun _ h _ _ => h.setZoneLive _ _

theorem State.takeDemand_works (s : State) (z : ZoneIx) (present : Bool) : Works s (s.takeDemand z present) := by
  unfold State.takeDemand
  dsimp only
  have marked : Works s (s.setZoneLive z { s.zoneLive z with demandPresent := present }) :=
    (Works.refl s).setZoneLive _ _
  split
  · exact marked.trans (State.enterWaking_works _ z)
  · exact marked.setZoneLive _ _
  · exact marked.setZoneLive _ _
  all_goals exact marked

theorem State.takeCount_works (s : State) (z : ZoneIx) (old new : Nat) : Works s (s.takeCount z old new) := by
  unfold State.takeCount
  split
  · exact s.takeDemand_works z true
  · split
    · exact s.takeDemand_works z false
    · exact .refl s

theorem settleStep_works (s : State) : Works s (settleStep s) :=
  List.foldlRecOn _ _ ((Works.refl s).then (.settle (s.countDemand s.settleTable))) fun t h z _ =>
    h.trans (t.takeCount_works z _ _)

/-- A scan step examines its slots and goes on with the scan, or ends it with its answer (R96 to R102). -/
theorem scanStep_cases (s : State) :
    scanStep s = s ∨ ∃ sc t, s.engine.scan = some sc ∧ Works s t ∧
      ((∃ sc' : Scan, sc'.job.kind = sc.job.kind ∧ scanStep s = t.setEngine { t.engine with scan := some sc' })
        ∨ ∃ st body, scanStep s = t.endScan sc.job.kind st body) := by
  have kind : ∀ n (u : State) (sc : Scan), (examine n u sc).2.1.job.kind = sc.job.kind := by
    intro n
    induction n with
    | zero => exact fun _ _ => rfl
    | succ n ih =>
      intro u sc
      unfold examine
      split
      · rfl
      · split
        · split
          · rfl
          · exact ih u sc.advance
        · next act c aff ref first hj =>
          rw [ih]
          unfold State.sweepSlot
          split
          · split
            · simp only [Scan.advance, hj]
              cases u.sweepRoute act _ <;> rfl
            · rfl
          · rfl
  unfold scanStep
  split
  · exact .inl rfl
  · next sc hsc =>
    have examined : Works s (examine 16 s sc).1 := examine_induct Works.refl (fun _ _ _ h g => h.trans g)
      (fun u _ _ _ _ hr h => (Works.refl u).then (.slot hr (.of_sweepRoute h))) 16 s sc
    have kept := kind 16 s sc
    split
    · next t sc' he =>
      rw [he] at examined kept
      exact .inr ⟨sc, t, hsc, examined, .inl ⟨sc', kept, rfl⟩⟩
    · next t sc' st body he =>
      rw [he] at examined
      exact .inr ⟨sc, t, hsc, examined, .inr ⟨st, body, rfl⟩⟩

/-- A block completion is work, one scan step, and work. -/
theorem completeBlock_works (gateFirst : Bool) (zonesFirst : Nat) (s : State) :
    ∃ t, Works s t ∧ Works (scanStep t) (completeBlock gateFirst zonesFirst s) := by
  have route : ∀ u : State, ∃ t, Works u t ∧ routeWork zonesFirst u = scanStep t := fun u =>
    ⟨_, (flipStep_works u).trans <| (takeCue_works _).trans <| (takeHanded_works _ _).trans <|
      (settleStep_works _).trans (takeHanded_works _ _), rfl⟩
  have gates : ∀ u : State, Works u (gateStep u) := fun u => (Works.refl u).other {}
  have begins : ∀ u : State, Works u (beginBlock (clockMove u)) := fun u => (clockMove_works u).other {}
  unfold completeBlock
  cases gateFirst with
  | true =>
    obtain ⟨t, ht, e⟩ := route (gateStep s)
    exact ⟨t, (gates s).trans ht, e ▸ begins _⟩
  | false =>
    obtain ⟨t, ht, e⟩ := route s
    exact ⟨t, ht, e ▸ (gates _).trans (begins _)⟩

/-! ## The control line byte by byte (R181 to R184) -/

/-- A byte that makes no frame complete is lost, or leaves the port at work on a frame; one that completes a frame hands
it on from a port back to hunting, which may then begin an answer (R183). -/
theorem receiveByte_cases (b : Byte) (s : State) :
    receiveByte b s = s
    ∨ s.port.driver = false ∧ (∃ (ph : FramingPhase) (kept : List Byte), ph ≠ .hunting ∧ (ph ≠ .collecting → kept = [])
        ∧ (kept = [] ∨ kept = [b] ∧ goodLength b = true
          ∨ ∃ len bs, s.port.partFrame = len :: bs ∧ kept = len :: (bs ++ [b]) ∧ bs.length ≠ len.toNat)
        ∧ receiveByte b s = s.setPort { s.port with phase := ph, partFrame := kept, gap := some 0 })
    ∨ s.port.driver = false ∧ s.port.phase = .collecting ∧ ∃ t, Arrived (s.setPort s.port.hunt) t
        ∧ receiveByte b s = t.setPort t.port.beginAnswer := by
  unfold receiveByte
  split
  · exact .inl rfl
  · next hd =>
    rw [Bool.not_eq_true] at hd
    split
    · split
      · exact .inr (.inl ⟨hd, .collecting, [], by simp, by simp, .inl rfl, rfl⟩)
      · exact .inl rfl
    · next hp =>
      unfold keepByte
      dsimp only
      split
      · next hk =>
        rw [hk, List.nil_append]
        split
        · next hg => exact .inr (.inl ⟨hd, .collecting, [b], by simp, by simp, .inr (.inl ⟨rfl, hg⟩), rfl⟩)
        · exact .inr (.inl ⟨hd, .discarding, [], by simp, by simp, .inl rfl, rfl⟩)
      · next len bs hk =>
        split
        · exact .inr (.inr ⟨hd, hp, _, completeFrame_arrived (by simp [hk]) _, rfl⟩)
        · next hn =>
          refine .inr (.inl ⟨hd, .collecting, s.port.partFrame ++ [b], by simp, by simp, .inr (.inr ⟨len, bs, hk, ?_, ?_⟩),
            rfl⟩)
          · rw [hk, List.cons_append]
          · simpa [hk] using hn
    · exact .inr (.inl ⟨hd, .discarding, [], by simp, by simp, .inl rfl, rfl⟩)

/-! ## What a command can do -/

/-- Everything a command can do to the part: nothing that `Untouched` names (an event whose moment has not come, an
outside line), work, a frame that reaches the port, what the control line does byte by byte, a block completion, a sample
period, or one of the sequences of chapter 11. -/
inductive StepCase (s : State) : State → Prop
  | outside {t : State} (h : Untouched s t) : StepCase s t
  | work {t : State} (hr : s.run = .running) (h : Works s t) : StepCase s t
  | frame {t : State} (hr : s.run = .running) (hl : s.port.listening = true) (h : Arrived s t) : StepCase s t
  | byte (hr : s.run = .running) (b : Byte) : StepCase s (receiveByte b s)
  | gap (hr : s.run = .running) : StepCase s (gapTimeout s)
  | sent (hr : s.run = .running) : StepCase s (answerSent s)
  | block {t u : State} (hr : s.run = .running) (before : Works s t) (after : Works (scanStep t) u) : StepCase s u
  | sample (hr : s.run = .running) (xs : Table SampleWord 32) : StepCase s (samplePeriod xs s)
  | restarted (hr : s.run = .running) : StepCase s (restart s)
  | held : StepCase s (hold s)
  | poweredDown : StepCase s (powerDown s)
  | startedUp : StepCase s (startUp s)

theorem StepCase.idle (s : State) : StepCase s s :=
  .outside {}

theorem whenRunning_case {f : State → State} {s : State} (h : s.run = .running → StepCase s (f s)) :
    StepCase s (whenRunning f s) := by
  unfold whenRunning
  split
  · next hr => exact h hr
  · exact .idle s
  · exact .idle s

theorem whenRunning_works {f : State → State} (h : ∀ s, Works s (f s)) (s : State) : StepCase s (whenRunning f s) :=
  whenRunning_case fun hr => .work hr (h s)

theorem onFrame_case {f : State → State} {s : State} (h : Arrived s (f s)) : StepCase s (onFrame f s) := by
  refine whenRunning_case fun hr => ?_
  split
  · next hl => exact .frame hr hl h
  · exact .idle s

theorem onZone_case {f : State → ZoneIx → State} (h : ∀ s z, Works s (f s z)) (zone : Nat) (s : State) :
    StepCase s (onZone zone f s) := by
  unfold onZone
  split
  · exact whenRunning_works (fun s => h s _) s
  · exact .idle s

theorem request_case {i : Instr} {owner : State → State × Reply} (h : ownerOf i = some owner) {s t : State}
    (ht : exec i s = .next t) : StepCase s t := by
  obtain ⟨kind, hk, he⟩ := exec_request h
  obtain rfl := Host.Outcome.next.inj ((he s).symm.trans ht)
  exact onFrame_case (takeRequest_arrived (ownerOf_taken h hk s))

theorem event_case {i : Instr} (h : ownerOf i = none) {s t : State} (ht : exec i s = .next t) : StepCase s t := by
  cases i <;> cases h <;> obtain rfl := Host.Outcome.next.inj ht
  case unknownKindFrame kind body => exact onFrame_case (takeFrame_arrived kind body s)
  case byteReceived b => exact whenRunning_case fun hr => .byte hr b
  case gapTimeout => exact whenRunning_case .gap
  case answerSent => exact whenRunning_case .sent
  case blockCompletion g n =>
    obtain ⟨t, before, after⟩ := completeBlock_works g n s
    exact whenRunning_case fun hr => .block hr before after
  case analysisFrameEnd => exact whenRunning_works endFrame_works s
  case frameResult zone _ => exact onZone_case State.frameResult_works zone s
  case ampokLineChange zone ok => split <;> exact .outside {}
  case ampStatusDebounced zone => exact onZone_case State.ampSettled_works zone s
  case keyLineChange key on => split <;> exact .outside {}
  case keyDebounced key =>
    split
    · exact whenRunning_works (fun s => s.keySettled_works _) s
    · exact .idle s
  case wakeTimerExpiry zone => exact onZone_case State.wakeExpired_works zone s
  case standbyTimerExpiry zone => exact onZone_case State.standbyExpired_works zone s
  case houseClockLost => exact whenRunning_works clockLost_works s
  case houseClockReturned => exact whenRunning_works clockReturned_works s
  case houseClockLock => exact whenRunning_works clockLock_works s
  case houseClockMove => exact whenRunning_works clockMoveDue_works s
  case storeWriteDone => exact whenRunning_works (endWrite_works _ _) s
  case storeWriteFailed left => exact whenRunning_works (endWrite_works _ _) s
  case storeStageTimeout left => exact whenRunning_works (endWrite_works _ _) s
  case rstLLow => exact .held
  case powerLoss => exact .poweredDown
  case startUpSequence =>
    split
    · exact .startedUp
    · exact .startedUp
    · exact .idle s
  case restartSequence =>
    refine whenRunning_case fun hr => ?_
    unfold restartDue
    split
    · exact .restarted hr
    · exact .idle s
    · exact .idle s
  case samplePeriod ain => exact whenRunning_case fun hr => .sample hr _

theorem exec_case {i : Instr} {s t : State} (ht : exec i s = .next t) : StepCase s t := by
  cases ho : ownerOf i with
  | some owner => exact request_case ho ht
  | none => exact event_case ho ht

/-- Everything a step can do: idle, or take the command at the front of the queue. -/
theorem step_case {s t : State} (h : step s = .next t) :
    t = s ∨ ∃ rest, StepCase { s with pending := rest } t := by
  unfold step at h
  split at h
  · exact .inl (Host.Outcome.next.inj h).symm
  · exact .inr ⟨_, exec_case h⟩

end Sys2Proof.Machine

namespace Sys2Proof.Machine
open Sys2Proof.Safety

/-! ## Gains and delays in their ranges (O54)

Both laws say something of every record, and something of the working copy that the records are worked out from. -/

/-- What the second law says of one record (R30, R38). -/
def gainsInRange (r : Route) : Prop :=
  gainInRange r.current ∧ gainInRange r.target ∧ gainInRange r.live.level ∧ gainInRange r.staged.level

def CeilingsInRange (s : State) : Prop :=
  ∀ z, -96 ≤ (s.zoneSettings z).ceiling ∧ (s.zoneSettings z).ceiling ≤ 48

/-- Every distance and precedence in its range: what holds the geometric delays (R48, R125, R148). -/
def GeometryInRange (s : State) : Prop :=
  (∀ st z, s.distance st z ≤ 15000) ∧ ∀ z, (s.zoneSettings z).precedence ≤ 300

/-- Both range laws pass from `s` to `t`. -/
def RangesPass (s t : State) : Prop :=
  (GainsInRange s → GainsInRange t) ∧ (DelaysInLine s → DelaysInLine t)

theorem RangesPass.refl (s : State) : RangesPass s s :=
  ⟨id, id⟩

theorem RangesPass.trans {s t u : State} (h : RangesPass s t) (g : RangesPass t u) : RangesPass s u :=
  ⟨g.1 ∘ h.1, g.2 ∘ h.2⟩

/-- Both ranges of one record, each where the working copy of `s` is in range, hold of `r'` once they hold of `r`. -/
def RecordPass (s : State) (r r' : Route) : Prop :=
  (CeilingsInRange s → gainsInRange r → gainsInRange r') ∧ (GeometryInRange s → delaysInRange r → delaysInRange r')

/-- A step that sends each record to one in range and leaves the working copy in range keeps both laws. -/
theorem RangesPass.of_records {s t : State} (ceilings : CeilingsInRange s → CeilingsInRange t)
    (geometry : GeometryInRange s → GeometryInRange t)
    (records : ∀ k r', t.route? k = some r' → ∃ r, s.route? k = some r ∧ RecordPass s r r') : RangesPass s t := by
  constructor
  · rintro ⟨hr, hc⟩
    refine ⟨fun k r' hr' => ?_, ceilings hc⟩
    obtain ⟨r, h, gains, -⟩ := records k r' hr'
    exact gains hc (hr k r h)
  · rintro ⟨hr, hg⟩
    refine ⟨fun k r' hr' => ?_, geometry hg⟩
    obtain ⟨r, h, -, delays⟩ := records k r' hr'
    exact delays hg (hr k r h)

/-- A part whose slots are all FREE, and whose working copy is in range, has both laws. -/
theorem RangesPass.of_free {s t : State} (h : ∀ k, t.route? k = none)
    (ceilings : CeilingsInRange s → CeilingsInRange t) (geometry : GeometryInRange s → GeometryInRange t) :
    RangesPass s t :=
  .of_records ceilings geometry fun k r' hr' => by simp [h k] at hr'

theorem CeilingsInRange.of_zones {s t : State} (e : t.store.working.zones = s.store.working.zones) :
    CeilingsInRange s → CeilingsInRange t := by
  simp [CeilingsInRange, State.zoneSettings, e]

theorem GeometryInRange.of_eq {s t : State} (zones : t.store.working.zones = s.store.working.zones)
    (geometry : t.store.working.geometry = s.store.working.geometry) : GeometryInRange s → GeometryInRange t := by
  simp [GeometryInRange, State.distance, State.zoneSettings, zones, geometry]

theorem RecordPass.refl (s : State) (r : Route) : RecordPass s r r :=
  ⟨fun _ => id, fun _ => id⟩

/-- A step that leaves the table and the working copy's ranges as they are. -/
theorem RangesPass.of_eq {s t : State} (table : t.engine.table = s.engine.table)
    (zones : t.store.working.zones = s.store.working.zones)
    (geometry : t.store.working.geometry = s.store.working.geometry) : RangesPass s t :=
  .of_records (.of_zones zones) (.of_eq zones geometry) fun k r' hr' =>
    ⟨r', by simpa [State.route?, table] using hr', .refl s r'⟩

/-! ### Quantities -/

theorem gainInRange_clampLevel (x : Int) : gainInRange (clampLevel x) := by
  simp only [gainInRange, clampLevel, clampInt]
  omega

theorem clampDelay_le (d : Nat) : clampDelay d ≤ 24000 := by
  simp only [clampDelay, clampNat]
  omega

/-- Rounded to whole samples, the farthest loudspeaker and the longest precedence lie within the line (R48, R49). -/
theorem geometricDelay_le {d p : Nat} (hd : d ≤ 15000) (hp : p ≤ 300) : geometricDelay d p ≤ 22431 := by
  unfold geometricDelay
  omega

theorem State.dueDelay_le {s : State} (h : GeometryInRange s) (i : InputIx) (z : ZoneIx) {b : Bank}
    (hb : ∀ d, b.delay = some d → d ≤ 24000) : s.dueDelay i z b ≤ 24000 := by
  unfold State.dueDelay
  cases hd : b.delay with
  | some d => exact hb d hd
  | none => exact (geometricDelay_le (h.1 _ z) (h.2 z)).trans (by decide)

/-- The evaluation of a target stays between the floor and the zone's ceiling (R30). -/
theorem State.evalTarget_inRange {s : State} (h : CeilingsInRange s) (r : Route) :
    gainInRange (s.evalTarget r).1 := by
  have ceiling := h r.zone
  unfold State.evalTarget limitGain gainInRange
  split_ifs <;> simp only [OFF] at * <;> omega

/-! ### Records -/

/-- Only the state of a record changes, to one whose pending delay, if it has one, is within the line. -/
theorem RecordPass.of_state {s : State} {r r' : Route} {st : RouteState} {armed : Bool}
    (h : r' = { r with state := st, armed := armed })
    (pending : GeometryInRange s → delaysInRange r → ∀ d, st = .dipping d → d ≤ 24000) : RecordPass s r r' := by
  subst h
  exact ⟨fun _ => id, fun hg hr => ⟨hr.1, pending hg hr, hr.2.2.1, hr.2.2.2⟩⟩

theorem RecordPass.of_retap {s : State} {due : Nat} {r : Route}
    (hdue : GeometryInRange s → delaysInRange r → due ≤ 24000) : RecordPass s r (retap due r) := by
  unfold retap
  split
  · split
    · exact .refl s r
    · exact .of_state (r := r) rfl fun hg hr d e => by cases e; exact hdue hg hr
  · split
    · exact .refl s r
    · exact .of_state (r := r) rfl fun hg hr d e => by cases e; exact hdue hg hr
  · exact .of_state (r := r) rfl fun hg hr d e => by cases e; exact hdue hg hr
  · exact .refl s r
  · exact .refl s r

theorem State.dueOf_le {s : State} {r : Route} (hg : GeometryInRange s) (hr : delaysInRange r) :
    s.dueOf r ≤ 24000 :=
  State.dueDelay_le hg _ _ hr.2.2.1

theorem RecordPass.of_swap (s : State) (r : Route) : RecordPass s r (swapBanks r) :=
  ⟨fun _ ⟨current, target, live, staged⟩ => ⟨current, target, staged, live⟩,
    fun _ ⟨delay, pending, live, staged⟩ => ⟨delay, pending, staged, live⟩⟩

theorem RecordPass.trans {s : State} {a b c : Route} (h : RecordPass s a b) (g : RecordPass s b c) :
    RecordPass s a c :=
  ⟨fun hc => g.1 hc ∘ h.1 hc, fun hg => g.2 hg ∘ h.2 hg⟩

/-- A staged bank takes clamped quantities over those of a bank in range (R54). -/
theorem RecordPass.of_staged (s : State) (r : Route) {bank : Bank} (from_ : bank = r.live ∨ bank = r.staged)
    (level : Option Int) (rate : Option Nat) (preset : Option PresetIx) (delay : DelayEdit) (arm : Bool) :
    RecordPass s r
      { r with
        staged := editBank bank (level.map clampLevel) (rate.map clampRate) preset (clampEdit delay), armed := arm } := by
  refine ⟨fun _ ⟨current, target, live, staged⟩ => ⟨current, target, live, ?_⟩,
    fun _ ⟨used, pending, live, staged⟩ => ⟨used, pending, live, fun d hd => ?_⟩⟩
  · cases level with
    | some x => exact gainInRange_clampLevel x
    | none => rcases from_ with rfl | rfl <;> assumption
  · cases delay with
    | keep =>
      rcases from_ with rfl | rfl
      · exact live d hd
      · exact staged d hd
    | geometric => simp [editBank, clampEdit] at hd
    | override x =>
      obtain rfl := Option.some.inj hd
      exact clampDelay_le x

theorem RouteAct.recordPass {s : State} {r r' : Route} (h : RouteAct s r r') : RecordPass s r r' := by
  cases h with
  | same => exact .refl s r
  | retired =>
    unfold retire
    split
    · exact .refl s r
    all_goals exact .of_state (r := r) rfl fun _ _ d e => by simp at e
  | halted c =>
    unfold halt
    split
    case h_4 | h_5 => exact .refl s r
    all_goals exact .of_state (r := r) rfl fun _ _ d e => by simp at e
  | armed => exact .of_state (r := r) rfl fun _ hr => hr.2.1
  | staged bank from_ level rate preset delay arm => exact .of_staged s r from_ level rate preset delay arm
  | retapped => exact .of_retap State.dueOf_le
  | released =>
    refine .of_state (r := r) rfl fun hg hr d e => ?_
    split at e
    · simp at e
    · cases e
      exact State.dueOf_le hg hr
  | flipped =>
    unfold State.flipRoute
    split
    · exact (RecordPass.of_swap s r).trans (.of_retap State.dueOf_le)
    · exact .refl s r

/-- A step toward a target in range keeps the current in range (R38). -/
theorem gainInRange_rampStep {n : Nat} {current target : Int} (hc : gainInRange current) (ht : gainInRange target) :
    gainInRange (rampStep n current target) := by
  have between := rampStep_between n current target
  simp only [gainInRange] at *
  omega

/-- Step 4 takes an evaluated target in range, and delays that are pending or due (R12, R14). -/
theorem RecordPass.of_settle {s : State} {r r' : Route}
    (h : settleRoute (s.dueOf r) (s.evalTarget r) r = some r') : RecordPass s r r' := by
  have stepped (st : RouteState) (delay : Nat)
      (hst : ∀ d, st = .dipping d → r.state = .dipping d)
      (hd : delay = r.delay ∨ r.state = .dipping delay ∨ delay = s.dueOf r) :
      RecordPass s r
        { r with
          target := (s.evalTarget r).1, limited := (s.evalTarget r).2
          current := rampStep (stepRate r) r.current (s.evalTarget r).1, state := st, delay := delay } := by
    refine ⟨fun hc ⟨current, _, live, staged⟩ => ?_, fun hg hr => ?_⟩
    · have target := State.evalTarget_inRange hc r
      exact ⟨gainInRange_rampStep current target, target, live, staged⟩
    · obtain ⟨used, pending, live, staged⟩ := id hr
      refine ⟨?_, fun d e => pending d (hst d e), live, staged⟩
      rcases hd with rfl | e | rfl
      · exact used
      · exact pending _ e
      · exact State.dueOf_le hg hr
  unfold settleRoute at h
  dsimp only at h
  split at h
  · obtain rfl := Option.some.inj h
    exact stepped _ _ (fun d e => by split at e <;> simp at e) (.inl rfl)
  · obtain rfl := Option.some.inj h
    exact stepped _ _ (fun d e => by split at e <;> simp at e) (.inl rfl)
  · next d e =>
    split at h <;> obtain rfl := Option.some.inj h
    · exact stepped _ _ (fun _ e => by simp at e) (.inr (.inl e))
    · exact stepped _ _ (fun _ => id) (.inl rfl)
  · split at h <;> obtain rfl := Option.some.inj h
    · exact stepped _ _ (fun _ => id) (.inr (.inr rfl))
    · exact stepped _ _ (fun _ => id) (.inl rfl)
  · split at h
    · simp at h
    · obtain rfl := Option.some.inj h
      exact stepped _ _ (fun _ => id) (.inl rfl)

/-! ### The working copy -/

theorem zoneEdit?_ceiling {f : ZoneFields} {v new : ZoneSettings} (h : zoneEdit? f v = some new)
    (hv : -96 ≤ v.ceiling ∧ v.ceiling ≤ 48) : -96 ≤ new.ceiling ∧ new.ceiling ≤ 48 := by
  unfold zoneEdit? at h
  split at h
  · obtain rfl := Option.some.inj h
    cases f.ceiling with
    | none => exact hv
    | some x =>
      simp only [Option.map_some, Option.getD_some, clampCeiling, clampInt]
      omega
  · simp at h

theorem zoneEdit?_precedence {f : ZoneFields} {v new : ZoneSettings} (h : zoneEdit? f v = some new)
    (hv : v.precedence ≤ 300) : new.precedence ≤ 300 := by
  unfold zoneEdit? at h
  split at h
  · obtain rfl := Option.some.inj h
    cases f.precedence with
    | none => exact hv
    | some x =>
      simp only [Option.map_some, Option.getD_some, clampPrecedence, clampNat]
      omega
  · simp at h

/-- A zone record that a start-up takes from the flash is the factory default, or written by an edit of it. -/
theorem loadZone?_getD (r : StoredZone) :
    (loadZone? r).getD factoryZone = factoryZone
      ∨ ∃ f, zoneEdit? f factoryZone = some ((loadZone? r).getD factoryZone) := by
  unfold loadZone?
  split
  · next v hv =>
    split
    · exact .inr ⟨_, hv⟩
    · exact .inl rfl
  · exact .inl rfl

/-- What a start-up loads is in range, whatever the flash holds (R198). -/
theorem loadedCopy_inRange (f : FlashImage) {t : State} (h : t.store.working = loadedCopy f) :
    CeilingsInRange t ∧ GeometryInRange t := by
  have zone : ∀ z, t.zoneSettings z = factoryZone ∨ ∃ g, zoneEdit? g factoryZone = some (t.zoneSettings z) := by
    intro z
    simp only [State.zoneSettings, h, loadedCopy]
    split
    · simpa [loadSnapshot] using loadZone?_getD (f.snapshot.zones.get z)
    · exact .inl (Table.get_fill _ z)
  refine ⟨fun z => ?_, fun st z => ?_, fun z => ?_⟩
  · rcases zone z with e | ⟨g, e⟩
    · rw [e]
      decide
    · exact zoneEdit?_ceiling e (by decide)
  · simp only [State.distance, h, loadedCopy]
    split
    · simp only [loadSnapshot, Table.get_map, clampDistance, clampNat]
      omega
    · simp [factoryDefaults]
  · rcases zone z with e | ⟨g, e⟩
    · rw [e]
      decide
    · exact zoneEdit?_precedence e (by decide)

/-! ### Every step -/

/-- A record made by a placement is silent, at its clamped level and its due delay (R6, R8). -/
theorem State.newRoute_inRange (s : State) (i : InputIx) (z : ZoneIx) (level : Int) (rate : Option Nat)
    (preset : Option PresetIx) (delay : Option Nat) :
    gainsInRange (s.newRoute i z (placementBank level rate preset delay))
      ∧ (GeometryInRange s → delaysInRange (s.newRoute i z (placementBank level rate preset delay))) := by
  have off : gainInRange OFF := ⟨by decide, by decide⟩
  have override : ∀ d, (placementBank level rate preset delay).delay = some d → d ≤ 24000 := by
    intro d hd
    obtain ⟨x, -, rfl⟩ := Option.map_eq_some_iff.mp hd
    exact clampDelay_le x
  exact ⟨⟨off, off, gainInRange_clampLevel level, gainInRange_clampLevel level⟩,
    fun hg => ⟨State.dueDelay_le hg i z override, fun d e => by simp [State.newRoute] at e, override, override⟩⟩

theorem State.placeAt_rangesPass (s : State) (k : SlotIx) (i : InputIx) (z : ZoneIx) (level : Int)
    (rate : Option Nat) (preset : Option PresetIx) (delay : Option Nat) :
    RangesPass s (s.placeAt k i z (placementBank level rate preset delay)) := by
  obtain ⟨gains, delays⟩ := s.newRoute_inRange i z level rate preset delay
  have held : ∀ j r, (s.placeAt k i z (placementBank level rate preset delay)).route? j = some r →
      r = s.newRoute i z (placementBank level rate preset delay) ∨ s.route? j = some r := by
    intro j r hr
    change (s.setSlot k _).route? j = some r at hr
    rw [State.setSlot_route?] at hr
    split at hr
    · exact .inl (Option.some.inj hr).symm
    · exact .inr hr
  refine ⟨fun ⟨hr, hc⟩ => ⟨fun j r h => ?_, hc⟩, fun ⟨hr, hg⟩ => ⟨fun j r h => ?_, hg⟩⟩
  · rcases held j r h with rfl | h
    · exact gains
    · exact hr j r h
  · rcases held j r h with rfl | h
    · exact delays hg
    · exact hr j r h

theorem Work.rangesPass {s t : State} (h : Work s t) : RangesPass s t := by
  cases h with
  | @slot k r r' hr act =>
    refine .of_records id id fun j q hq => ?_
    rw [State.setSlot_route?] at hq
    split at hq
    · next e =>
      obtain rfl := Option.some.inj hq
      exact ⟨r, e ▸ hr, act.recordPass⟩
    · exact ⟨q, hq, .refl s q⟩
  | routes act =>
    refine .of_records id id fun k r' hr' => ?_
    rw [State.mapRoutes_route?] at hr'
    obtain ⟨r, hr, rfl⟩ := Option.map_eq_some_iff.mp hr'
    exact ⟨r, hr, (act r).recordPass⟩
  | place k i z level rate preset delay => exact s.placeAt_rangesPass k i z level rate preset delay
  | settle counts =>
    refine .of_records id id fun k r' hr' => ?_
    have slot : (s.route? k).bind (fun r => settleRoute (s.dueOf r) (s.evalTarget r) r) = some r' := by
      simpa [State.route?, State.settleTable] using hr'
    obtain ⟨r, hr, h⟩ := Option.bind_eq_some_iff.mp slot
    exact ⟨r, hr, .of_settle h⟩
  | distance st z d =>
    refine .of_records id (fun ⟨hd, hp⟩ => ⟨fun st' z' => ?_, hp⟩) fun k r' hr' => ⟨r', hr', .refl s r'⟩
    rw [State.setDistance_distance]
    split
    · simp only [clampDistance, clampNat]
      omega
    · exact hd st' z'
  | @zone z f v edit =>
    refine .of_records (fun hc y => ?_) (fun ⟨hd, hp⟩ => ⟨hd, fun y => ?_⟩) fun k r' hr' => ⟨r', hr', .refl s r'⟩
    · rw [State.setZoneSettings_zoneSettings]
      split
      · exact zoneEdit?_ceiling edit (hc z)
      · exact hc y
    · rw [State.setZoneSettings_zoneSettings]
      split
      · exact zoneEdit?_precedence edit (hp z)
      · exact hp y
  | clock _ => exact .of_eq rfl rfl rfl
  | port _ _ => exact .of_eq rfl rfl rfl
  | other h => exact .of_eq h.table h.zones h.geometry

theorem Works.rangesPass {s t : State} (h : Works s t) : RangesPass s t := by
  induction h with
  | refl => exact .refl s
  | tail _ w ih => exact ih.trans w.rangesPass

theorem Arrived.rangesPass {s t : State} (h : Arrived s t) : RangesPass s t := by
  cases h with
  | answered h a => exact h.rangesPass.trans (.of_eq rfl rfl rfl)
  | started _ _ => exact .of_eq rfl rfl rfl

theorem scanStep_rangesPass (s : State) : RangesPass s (scanStep s) := by
  obtain e | ⟨sc, t, -, h, ⟨sc', -, e⟩ | ⟨st, body, e⟩⟩ := scanStep_cases s
  · rw [e]
    exact .refl s
  · rw [e]
    exact h.rangesPass.trans (.of_eq rfl rfl rfl)
  · rw [e]
    exact h.rangesPass.trans (.of_eq rfl rfl rfl)

theorem receiveByte_rangesPass (b : Byte) (s : State) : RangesPass s (receiveByte b s) := by
  have port (t : State) (p : Port) : RangesPass t (t.setPort p) := .of_eq rfl rfl rfl
  obtain e | ⟨-, _, _, -, -, -, e⟩ | ⟨-, -, t, h, e⟩ := receiveByte_cases b s
  · rw [e]
    exact .refl s
  · rw [e]
    exact port s _
  · rw [e]
    exact ((port s _).trans h.rangesPass).trans (port t _)

theorem startUp_rangesPass (s : State) : RangesPass s (startUp s) := by
  have loaded : (startUp s).store.working = loadedCopy s.store.flash := by simp [startUp]
  obtain ⟨ceilings, geometry⟩ := loadedCopy_inRange s.store.flash loaded
  exact .of_free (fun k => by simp [startUp, State.route?, RouteEngine.atStart]) (fun _ => ceilings) fun _ => geometry

theorem powerDown_rangesPass (s : State) : RangesPass s (powerDown s) := by
  obtain ⟨ceilings, geometry⟩ := loadedCopy_inRange (t := powerDown s) erasedFlash loadedCopy_erased.symm
  exact .of_free (fun k => by simp [powerDown, State.route?, RouteEngine.atStart]) (fun _ => ceilings) fun _ => geometry

theorem restart_rangesPass (s : State) : RangesPass s (restart s) :=
  .of_free (fun k => by simp [restart, State.route?, RouteEngine.atStart]) id id

theorem StepCase.rangesPass {s t : State} (h : StepCase s t) : RangesPass s t := by
  cases h with
  | outside h => exact .of_eq h.table h.zones h.geometry
  | work _ h => exact h.rangesPass
  | frame _ _ h => exact h.rangesPass
  | byte _ b => exact receiveByte_rangesPass b s
  | gap _ => unfold gapTimeout; split <;> exact .of_eq rfl rfl rfl
  | sent _ => unfold answerSent; split <;> exact .of_eq rfl rfl rfl
  | block _ before after => exact (before.rangesPass.trans (scanStep_rangesPass _)).trans after.rangesPass
  | sample _ xs => exact .of_eq rfl rfl rfl
  | restarted _ => exact restart_rangesPass s
  | held => exact .of_eq rfl rfl rfl
  | poweredDown => exact powerDown_rangesPass s
  | startedUp => exact startUp_rangesPass s

/-- Settles O54: each elementary change of a part's work sends every record in range to one in range and keeps the
working copy's quantities clamped; the sequences empty the table. -/
theorem rangesKept : Obligations.RangesKept := by
  unfold Obligations.RangesKept
  intro s t h
  obtain rfl | ⟨rest, h⟩ := step_case h
  · exact RangesPass.refl t
  · have popped : RangesPass s { s with pending := rest } := .of_eq rfl rfl rfl
    exact popped.trans h.rangesPass

end Sys2Proof.Machine

namespace Sys2Proof.Machine
open Sys2Proof.Safety

/-! ## The signal path, the clock and the control line (O58) -/

/-- The laws of the signal path, the clock and the control line pass from `s` to `t`. -/
structure LinePass (s t : State) : Prop where
  samples : SamplesTrue s → SamplesTrue t
  clock : ClockTrue s → ClockTrue t
  framing : FramingTrue s → FramingTrue t
  scan : ScanTrue s → ScanTrue t
  answers : FramingTrue s → ScanTrue s → AnswersFew s → AnswersFew t
  attention : AttentionTrue s → AttentionTrue t

theorem LinePass.refl (s : State) : LinePass s s :=
  ⟨id, id, id, id, fun _ _ => id, id⟩

theorem LinePass.trans {s t u : State} (h : LinePass s t) (g : LinePass t u) : LinePass s u where
  samples := g.samples ∘ h.samples
  clock := g.clock ∘ h.clock
  framing := g.framing ∘ h.framing
  scan := g.scan ∘ h.scan
  answers hf hs := g.answers (h.framing hf) (h.scan hs) ∘ h.answers hf hs
  attention := g.attention ∘ h.attention

/-! ### Work leaves the line alone -/

/-- What a running part's work leaves of the line and the signal path: all but the clock, whose fields go on agreeing,
and the notices, which ATTN_L follows. -/
structure Calm (s t : State) : Prop where
  run : t.run = s.run
  lines : t.signal.lines = s.signal.lines
  outputs : t.signal.outputs = s.signal.outputs
  clock : s.signal.clock.agrees → t.signal.clock.agrees
  scan : t.engine.scan = s.engine.scan
  line : SameLine s.port t.port
  attention : s.run = .running → AttentionTrue s → AttentionTrue t

theorem Calm.refl (s : State) : Calm s s :=
  ⟨rfl, rfl, rfl, id, rfl, {}, fun _ => id⟩

theorem SameLine.trans {p q r : Port} (h : SameLine p q) (g : SameLine q r) : SameLine p r :=
  ⟨g.phase.trans h.phase, g.partFrame.trans h.partFrame, g.gap.trans h.gap, g.inProgress.trans h.inProgress,
    g.answers.trans h.answers, g.driver.trans h.driver⟩

theorem Calm.trans {s t u : State} (h : Calm s t) (g : Calm t u) : Calm s u :=
  ⟨g.run.trans h.run, g.lines.trans h.lines, g.outputs.trans h.outputs, g.clock ∘ h.clock, g.scan.trans h.scan,
    h.line.trans g.line, fun hr => g.attention (h.run.trans hr) ∘ h.attention hr⟩

theorem attentionTrue_of_eq {s t : State} (run : t.run = s.run) (port : t.port = s.port) :
    AttentionTrue s → AttentionTrue t := by
  simp [AttentionTrue, run, port]

theorem Work.calm {s t : State} (h : Work s t) : Calm s t := by
  cases h with
  | clock agrees => exact ⟨rfl, rfl, rfl, agrees, rfl, {}, fun _ => id⟩
  | port line attn =>
    refine ⟨rfl, rfl, rfl, id, rfl, line, fun hr ha => ?_⟩
    rcases attn with fresh | ⟨low, notices, mask⟩
    · simp only [AttentionTrue, State.setPort_run, State.setPort_port, hr, decide_true, Bool.true_and, fresh]
    · exact low.trans (ha.trans (by rw [State.setPort_port, State.setPort_run, notices, mask]))
  | other h =>
    exact ⟨h.run, h.lines, h.outputs, by simp [h.clock], h.scan, by rw [h.port]; exact {},
      fun _ => attentionTrue_of_eq h.run h.port⟩
  | _ => exact ⟨rfl, rfl, rfl, id, rfl, {}, fun _ => attentionTrue_of_eq rfl rfl⟩

theorem Works.calm {s t : State} (h : Works s t) : Calm s t := by
  induction h with
  | refl => exact .refl s
  | tail _ w ih => exact ih.trans w.calm

theorem samplesTrue_of_eq {s t : State} (lines : t.signal.lines = s.signal.lines)
    (outputs : t.signal.outputs = s.signal.outputs) : SamplesTrue s → SamplesTrue t := by
  simp [SamplesTrue, lines, outputs]

/-! ### The port -/

/-- How many answers wait, with that of the request in progress. -/
def Port.load (p : Port) : Nat :=
  p.answers.length + if p.inProgress.isSome then 1 else 0

/-- What `FramingTrue` says of the port (R181 to R183). -/
def Port.framed (p : Port) : Prop :=
  (p.phase = .hunting ↔ p.gap = none)
  ∧ (p.phase ≠ .collecting → p.partFrame = [])
  ∧ (∀ b bs, p.partFrame = b :: bs → goodLength b = true ∧ bs.length ≤ b.toNat)
  ∧ (p.driver = true ↔ p.phase = .hunting ∧ p.answers ≠ [])

/-- Hunting, with no frame begun; an answer that waits need not have begun. -/
structure Port.clear (p : Port) : Prop where
  phase : p.phase = .hunting
  gap : p.gap = none
  partFrame : p.partFrame = []
  driver : p.driver = true → p.answers ≠ []

theorem SameLine.framed {p q : Port} (h : SameLine p q) : p.framed → q.framed := by
  simp [Port.framed, h.phase, h.gap, h.partFrame, h.driver, h.answers]

theorem SameLine.clear {p q : Port} (h : SameLine p q) (hp : p.clear) : q.clear :=
  ⟨h.phase.trans hp.phase, h.gap.trans hp.gap, h.partFrame.trans hp.partFrame,
    by simpa [h.driver, h.answers] using hp.driver⟩

theorem SameLine.load {p q : Port} (h : SameLine p q) : q.load = p.load := by
  simp [Port.load, h.answers, h.inProgress]

theorem Port.framed.clear {p : Port} (h : p.framed) (hunting : p.phase = .hunting) : p.clear := by
  obtain ⟨gap, part, -, driver⟩ := h
  exact ⟨hunting, gap.mp hunting, part (by simp [hunting]), fun hd => (driver.mp hd).2⟩

theorem Port.beginAnswer_of_not_hunting {p : Port} (h : p.phase ≠ .hunting) : p.beginAnswer = p := by
  unfold Port.beginAnswer
  split <;> simp_all

theorem Port.beginAnswer_load (p : Port) : p.beginAnswer.load = p.load := by
  simp [Port.load]

/-- A clear port that begins its answer is framed. -/
theorem Port.clear.beginAnswer_framed {p : Port} (h : p.clear) : p.beginAnswer.framed := by
  obtain ⟨phase, gap, part, driver⟩ := h
  unfold Port.beginAnswer
  split
  · next ha => exact ⟨by simp [phase, gap], by simp [part], by simp [part], by simp [phase, ha]⟩
  · next ha => exact ⟨by simp [phase, gap], by simp [part], by simp [part], by simpa [phase, ha] using driver⟩
  all_goals simp_all

/-- The port with one answer more waiting. -/
def Port.handed (p : Port) (a : Answer) : Port :=
  ({ p with answers := p.answers ++ [a] } : Port).beginAnswer

theorem State.hand_port (s : State) (a : Answer) : (s.hand a).port = s.port.handed a :=
  rfl

theorem Port.clear.handed_framed {p : Port} (h : p.clear) (a : Answer) : (p.handed a).framed :=
  Port.clear.beginAnswer_framed ⟨h.phase, h.gap, h.partFrame, by simp⟩

theorem Port.framed.handed {p : Port} (h : p.framed) (a : Answer) : (p.handed a).framed := by
  by_cases hunting : p.phase = .hunting
  · exact (h.clear hunting).handed_framed a
  · rw [Port.handed, Port.beginAnswer_of_not_hunting (p := { p with answers := p.answers ++ [a] }) hunting]
    simpa [Port.framed, hunting] using h

theorem Port.handed_load (p : Port) (a : Answer) : (p.handed a).load = p.load + 1 := by
  rw [Port.handed, Port.beginAnswer_load]
  simp [Port.load]
  omega

theorem Port.handed_phase (p : Port) (a : Answer) : (p.handed a).phase = p.phase :=
  Port.beginAnswer_phase _

/-- A port that does not send has room for one answer more. -/
theorem Port.framed.load_le_one {s : State} (h : s.port.framed) (few : AnswersFew s) (hd : s.port.driver = false) :
    s.port.load ≤ 1 := by
  by_cases hunting : s.port.phase = .hunting
  · have none : s.port.answers = [] := by
      by_contra ha
      simpa [hd] using h.2.2.2.mpr ⟨hunting, ha⟩
    rw [Port.load, none]
    split <;> simp
  · exact few.2 hunting

theorem answersFew_of_load {s t : State} (load : t.port.load ≤ s.port.load) (phase : t.port.phase = s.port.phase)
    (h : AnswersFew s) : AnswersFew t :=
  ⟨load.trans h.1, fun hp => load.trans (h.2 (phase ▸ hp))⟩

/-- A part's work keeps the laws of the line while the part runs. -/
theorem Calm.linePass {s t : State} (hr : s.run = .running) (h : Calm s t) : LinePass s t where
  samples := samplesTrue_of_eq h.lines h.outputs
  clock := h.clock
  framing := h.line.framed
  scan := by simp [ScanTrue, h.scan, h.line.inProgress]
  answers _ _ := answersFew_of_load h.line.load.le h.line.phase
  attention := h.attention hr

/-- A change of none of the fields that the laws speak of. -/
theorem Untouched.linePass {s t : State} (h : Untouched s t) : LinePass s t where
  samples := samplesTrue_of_eq h.lines h.outputs
  clock := by simp [ClockTrue, h.clock]
  framing := by simp [FramingTrue, h.port]
  scan := by simp [ScanTrue, h.scan, h.port]
  answers _ _ := by simp [AnswersFew, h.port]
  attention := attentionTrue_of_eq h.run h.port

theorem attentionTrue_of_setPort {s t : State} {p : Port} (h : AttentionTrue t) (run : t.run = s.run)
    (low : p.attnLow = t.port.attnLow) (notices : p.notices = t.port.notices) (mask : p.mask = t.port.mask) :
    AttentionTrue (s.setPort p) := by
  unfold AttentionTrue at h ⊢
  rw [State.setPort_port, State.setPort_run, low, notices, mask, ← run]
  exact h

theorem State.hand_attention {s : State} (h : AttentionTrue s) (a : Answer) : AttentionTrue (s.hand a) :=
  attentionTrue_of_setPort h rfl (Port.beginAnswer_attnLow _) (Port.beginAnswer_notices _) (Port.beginAnswer_mask _)

/-! ### Frames that arrive -/

section Arrival

variable {s t : State} (h : Arrived s t)
include h

theorem Arrived.samples : SamplesTrue s → SamplesTrue t := by
  cases h with
  | answered h a => exact samplesTrue_of_eq h.calm.lines h.calm.outputs
  | started _ _ => exact id

theorem Arrived.clock : s.signal.clock.agrees → t.signal.clock.agrees := by
  cases h with
  | answered h a => exact h.calm.clock
  | started _ _ => exact id

theorem Arrived.framed : s.port.framed → t.port.framed := by
  cases h with
  | answered h a => exact fun hf => (h.calm.line.framed hf).handed a
  | started _ _ => exact SameLine.framed (q := s.port) {}

theorem Arrived.clear (hc : s.port.clear) : t.port.clear := by
  cases h with
  | answered h a =>
    have cleared := h.calm.line.clear hc
    exact (cleared.handed_framed a).clear ((Port.handed_phase _ a).trans cleared.phase)
  | started _ _ => exact ⟨hc.phase, hc.gap, hc.partFrame, hc.driver⟩

theorem Arrived.scan : ScanTrue s → ScanTrue t := by
  cases h with
  | answered h a => simp [ScanTrue, h.calm.scan, h.calm.line.inProgress]
  | started _ _ => exact fun _ => rfl

theorem Arrived.load : t.port.load = s.port.load + 1 := by
  cases h with
  | answered h a => rw [State.hand_port, Port.handed_load, h.calm.line.load]
  | started free _ => simp [Port.load, free]

theorem Arrived.phase : t.port.phase = s.port.phase := by
  cases h with
  | answered h a => rw [State.hand_port, Port.handed_phase, h.calm.line.phase]
  | started _ _ => rfl

theorem Arrived.attention (hr : s.run = .running) : AttentionTrue s → AttentionTrue t := by
  cases h with
  | answered h a => exact fun ha => State.hand_attention (h.calm.attention hr ha) a
  | started _ _ => exact id

end Arrival

/-- A frame that reaches a listening port finds no answer waiting, so that at most two come to wait (R187). -/
theorem Arrived.linePass {s t : State} (h : Arrived s t) (hr : s.run = .running) (hl : s.port.listening = true) :
    LinePass s t where
  samples := h.samples
  clock := h.clock
  framing := h.framed
  scan := h.scan
  answers hf _ few := by
    obtain ⟨hunting, hd⟩ := (listening_iff _).mp hl
    have room := Port.framed.load_le_one hf few hd
    refine ⟨?_, fun hp => absurd (h.phase.trans hunting) hp⟩
    change t.port.load ≤ 2
    rw [h.load]
    omega
  attention := h.attention hr

/-! ### Bytes, the gap and the answers sent -/

/-- The port at work on a frame keeps the laws: the driver is released, and what it holds of the frame is not yet a whole
one. -/
theorem LinePass.of_atWork {s : State} {ph : FramingPhase} {kept : List Byte} (hd : s.port.driver = false)
    (hp : ph ≠ .hunting) (hk : ph ≠ .collecting → kept = [])
    (part : s.port.framed → ∀ b bs, kept = b :: bs → goodLength b = true ∧ bs.length ≤ b.toNat) :
    LinePass s (s.setPort { s.port with phase := ph, partFrame := kept, gap := some 0 }) where
  samples := id
  clock := id
  framing hf := ⟨by simp [hp], hk, part hf, by simp [hd, hp]⟩
  scan := id
  answers hf _ few := by
    have room := Port.framed.load_le_one hf few hd
    exact ⟨room.trans (by decide), fun _ => room⟩
  attention := id

/-- A port back to hunting that begins the answer waiting, after what `t` holds has come about. -/
theorem beginAnswer_framing {t : State} (h : t.port.clear) : FramingTrue (t.setPort t.port.beginAnswer) :=
  h.beginAnswer_framed

theorem Port.hunt_clear {p : Port} (h : p.driver = false) : p.hunt.clear :=
  ⟨rfl, rfl, rfl, fun e => by simp [Port.hunt, h] at e⟩

theorem receiveByte_linePass {s : State} (hr : s.run = .running) (b : Byte) : LinePass s (receiveByte b s) := by
  obtain e | ⟨hd, ph, kept, hp, hk, part, e⟩ | ⟨hd, collecting, t, h, e⟩ := receiveByte_cases b s
  · rw [e]
    exact .refl s
  · rw [e]
    refine .of_atWork hd hp hk fun hf c cs hc => ?_
    rcases part with rfl | ⟨rfl, good⟩ | ⟨len, bs, hs, rfl, hn⟩
    · simp at hc
    · obtain ⟨rfl, rfl⟩ := List.cons.inj hc
      exact ⟨good, Nat.zero_le _⟩
    · obtain ⟨rfl, rfl⟩ := List.cons.inj hc
      obtain ⟨good, short⟩ := hf.2.2.1 len bs hs
      rw [List.length_append, List.length_singleton]
      exact ⟨good, by omega⟩
  · rw [e]
    have hunts : s.port.hunt.clear := Port.hunt_clear hd
    exact {
      samples := h.samples
      clock := h.clock
      framing := fun _ => beginAnswer_framing (h.clear hunts)
      scan := fun hs => (Port.beginAnswer_inProgress t.port).trans (h.scan (s := s.setPort s.port.hunt) hs)
      answers := fun hf _ few => by
        have room := Port.framed.load_le_one hf few hd
        have hunting : t.port.beginAnswer.phase = .hunting := (Port.beginAnswer_phase _).trans h.phase
        refine ⟨?_, fun hp => absurd hunting hp⟩
        change t.port.beginAnswer.load ≤ 2
        rw [Port.beginAnswer_load, h.load]
        change s.port.load + 1 ≤ 2
        omega
      attention := fun ha => attentionTrue_of_setPort (h.attention hr (s := s.setPort s.port.hunt) ha) rfl
        (Port.beginAnswer_attnLow _) (Port.beginAnswer_notices _) (Port.beginAnswer_mask _) }

theorem gapTimeout_linePass (s : State) : LinePass s (gapTimeout s) := by
  have ended (hp : s.port.phase ≠ .hunting) : LinePass s (s.setPort s.port.hunt.beginAnswer) :=
    { samples := id
      clock := id
      framing := fun hf => by
        have hd : s.port.driver = false := by
          by_contra hd
          exact hp (hf.2.2.2.mp (by simpa using hd)).1
        exact Port.clear.beginAnswer_framed (Port.hunt_clear hd)
      scan := fun hs => (Port.beginAnswer_inProgress _).trans hs
      answers := fun _ _ few => by
        refine ⟨?_, fun h => absurd (Port.beginAnswer_phase s.port.hunt) h⟩
        change s.port.hunt.beginAnswer.load ≤ 2
        rw [Port.beginAnswer_load]
        exact few.1
      attention := fun ha =>
        attentionTrue_of_setPort ha rfl (Port.beginAnswer_attnLow _) (Port.beginAnswer_notices _) (Port.beginAnswer_mask _) }
  unfold gapTimeout
  split
  · exact .refl s
  · next hp => exact ended (by simp [hp])
  · next hp => exact ended (by simp [hp])

theorem answerSent_linePass (s : State) : LinePass s (answerSent s) := by
  unfold answerSent
  split
  · next a rest hd ha =>
    exact {
      samples := id
      clock := id
      framing := fun hf => by
        have hunting := (hf.2.2.2.mp hd).1
        have before := Port.framed.clear hf hunting
        exact Port.clear.beginAnswer_framed ⟨hunting, before.gap, before.partFrame, by simp⟩
      scan := fun hs => (Port.beginAnswer_inProgress _).trans hs
      answers := fun _ _ => by
        refine answersFew_of_load ?_ (Port.beginAnswer_phase _)
        rw [State.setPort_port, Port.beginAnswer_load]
        simp only [Port.load, ha, List.length_cons]
        omega
      attention := fun h =>
        attentionTrue_of_setPort h rfl (Port.beginAnswer_attnLow _) (Port.beginAnswer_notices _) (Port.beginAnswer_mask _) }
  · exact .refl s
  · exact .refl s

/-! ### A scan step -/

/-- A scan that ends hands its answer on in the place that its request in progress held (R93, R187). -/
theorem State.endScan_linePass {s t : State} {sc : Scan} (hsc : s.engine.scan = some sc) (hr : s.run = .running)
    (h : Calm s t) (kind : Byte) (st : Status) (body : List Byte) : LinePass s (t.endScan kind st body) := by
  have freed : ((t.setEngine { t.engine with scan := none }).setPort { t.port with inProgress := none }).port.framed
      ↔ t.port.framed := Iff.rfl
  exact {
    samples := samplesTrue_of_eq h.lines h.outputs
    clock := h.clock
    framing := fun hf => (freed.mpr (h.line.framed hf)).handed _
    scan := fun _ => Port.beginAnswer_inProgress _
    answers := fun _ hs => by
      refine answersFew_of_load ?_ ((Port.handed_phase _ _).trans h.line.phase)
      have progress : s.port.inProgress.isSome = true := by simp [show s.port.inProgress = _ from hs, hsc]
      rw [State.endScan, State.hand_port, Port.handed_load]
      simp [Port.load, h.line.answers, progress]
    attention := fun ha => State.hand_attention
      (s := (t.setEngine { t.engine with scan := none }).setPort { t.port with inProgress := none })
      (h.attention hr ha) _ }

theorem scanStep_linePass {s : State} (hr : s.run = .running) : LinePass s (scanStep s) := by
  obtain e | ⟨sc, t, hsc, h, ⟨sc', kind, e⟩ | ⟨st, body, e⟩⟩ := scanStep_cases s
  · rw [e]
    exact .refl s
  · rw [e]
    have calm := h.calm.linePass hr
    exact { calm with
      scan := fun hs => by
        simpa [ScanTrue, h.calm.line.inProgress, hsc, kind] using hs }
  · rw [e]
    exact State.endScan_linePass hsc hr h.calm _ st body

theorem scanStep_run (s : State) : (scanStep s).run = s.run := by
  obtain e | ⟨sc, t, -, h, ⟨sc', -, e⟩ | ⟨st, body, e⟩⟩ := scanStep_cases s
  · rw [e]
  · rw [e]
    exact h.calm.run
  · rw [e]
    exact h.calm.run

/-! ### A sample period -/

theorem dropOldZeros_length_le (l : List Int) : (dropOldZeros l).length ≤ l.length := by
  induction l with
  | nil => exact le_rfl
  | cons x xs ih =>
    unfold dropOldZeros
    split
    · split <;> simp
    · next hd =>
      rw [hd] at ih
      simpa using ih

theorem dropOldZeros_getLast? (l : List Int) : (dropOldZeros l).getLast? ≠ some 0 := by
  induction l with
  | nil => simp [dropOldZeros]
  | cons x xs ih =>
    unfold dropOldZeros
    split
    · split
      · simp
      · simpa
    · next hd =>
      rw [hd] at ih
      simpa [List.getLast?_cons_cons] using ih

/-- A line that takes a sample is in its one form (R169). -/
theorem lineWf_pushSample (x : Int) (line : List Int) : lineWf (pushSample x line) = true := by
  have short : (pushSample x line).length ≤ 24001 :=
    (dropOldZeros_length_le _).trans (by simp only [List.length_take]; omega)
  simp only [lineWf, Bool.and_eq_true, decide_eq_true_eq]
  exact ⟨short, dropOldZeros_getLast? _⟩

theorem saturate_bounds (x : Int) : -8388608 ≤ saturate x ∧ saturate x ≤ 8388607 := by
  simp only [saturate, clampInt]
  omega

/-- What a zone sends is its value saturated (R45), a silent zone's 0 too (R176). -/
theorem zoneSample_sent (cuts : Option (List (NotchIx × NotchCut))) (memory : Table FilterMemory 8) (sum : Int) :
    (zoneSample cuts memory sum).sent = saturate (zoneSample cuts memory sum).value := by
  cases cuts <;> rfl

theorem Clock.tick_agrees {c : Clock} (h : c.agrees) : c.tick.agrees := by
  unfold Clock.tick
  split
  · next hp =>
    obtain ⟨status, source, moving, locked, -, -⟩ := h
    exact ⟨status, source, moving, locked, by simp [hp], Nat.min_le_left _ _⟩
  · exact h

theorem samplePeriod_linePass (xs : Table SampleWord 32) (s : State) : LinePass s (samplePeriod xs s) where
  samples _ := by
    refine ⟨fun i => ?_, fun z => ?_⟩
    · simp [samplePeriod, tickTimers, lineWf_pushSample]
    · simp [samplePeriod, tickTimers, zoneSample_sent, saturate_bounds]
  clock := Clock.tick_agrees
  framing hf := ⟨by simpa [samplePeriod, tickTimers] using hf.1, hf.2⟩
  scan := id
  answers _ _ := id
  attention := id

/-! ### The sequences (R200, R201) -/

theorem Port.atStart_framed : Port.atStart.framed := by
  simp [Port.framed, Port.atStart]

/-- A raised notice leaves ATTN_L as it should be in a part that runs (R189). -/
theorem State.raise_attention {s : State} (hr : s.run = .running) (n : Notice) : AttentionTrue (s.raise n) := by
  simp [AttentionTrue, hr, State.raise_port]

theorem samplesTrue_of_silent {t : State} (lines : ∀ i, t.signal.lines.get i = [])
    (outputs : ∀ z, t.signal.outputs.get z = 0) : SamplesTrue t :=
  ⟨fun i => by rw [lines]; decide, fun z => by rw [outputs]; decide⟩

theorem answersFew_of_idle {t : State} (answers : t.port.answers = []) (progress : t.port.inProgress = none) :
    AnswersFew t := by
  simp [AnswersFew, answers, progress]

theorem restart_linePass {s : State} (hr : s.run = .running) : LinePass s (restart s) where
  samples _ := samplesTrue_of_silent (fun i => by simp [restart, SignalEngine.restarted, SignalEngine.atPowerOn])
    fun z => by simp [restart, SignalEngine.restarted, SignalEngine.atPowerOn]
  clock := id
  framing _ := Port.atStart_framed
  scan _ := rfl
  answers _ _ _ := answersFew_of_idle rfl rfl
  attention _ := by simp [AttentionTrue, restart, State.raise_port, hr]

theorem hold_linePass (s : State) : LinePass s (hold s) where
  samples h := ⟨h.1, fun z => by simp [hold]⟩
  clock := id
  framing _ := by simp [FramingTrue, hold, holdPort]
  scan _ := rfl
  answers _ _ _ := answersFew_of_idle rfl rfl
  attention _ := rfl

theorem Clock.atPowerOn_agrees : Clock.atPowerOn.agrees := by
  simp [Clock.agrees, Clock.atPowerOn]

theorem powerDown_linePass (s : State) : LinePass s (powerDown s) where
  samples _ := samplesTrue_of_silent (fun i => Table.get_fill _ i) fun z => Table.get_fill _ z
  clock _ := Clock.atPowerOn_agrees
  framing _ := Port.atStart_framed
  scan _ := rfl
  answers _ _ _ := answersFew_of_idle rfl rfl
  attention _ := rfl

theorem startUp_linePass (s : State) : LinePass s (startUp s) where
  samples _ := samplesTrue_of_silent (fun i => by simp [startUp, SignalEngine.atPowerOn])
    fun z => by simp [startUp, SignalEngine.atPowerOn]
  clock _ := by
    have clock : (startUp s).signal.clock = Clock.atPowerOn := by simp [startUp, SignalEngine.atPowerOn]
    change (startUp s).signal.clock.agrees
    rw [clock]
    exact Clock.atPowerOn_agrees
  framing _ := by
    unfold startUp State.raiseIf
    dsimp only
    split <;> exact Port.atStart_framed
  scan _ := by
    unfold startUp State.raiseIf
    dsimp only
    split <;> rfl
  answers _ _ _ := by
    unfold startUp State.raiseIf
    dsimp only
    split <;> exact answersFew_of_idle rfl rfl
  attention _ := State.raise_attention (by simp) _

/-! ### Every step -/

theorem StepCase.linePass {s t : State} (h : StepCase s t) : LinePass s t := by
  cases h with
  | outside h => exact h.linePass
  | work hr h => exact h.calm.linePass hr
  | frame hr hl h => exact h.linePass hr hl
  | byte hr b => exact receiveByte_linePass hr b
  | gap _ => exact gapTimeout_linePass s
  | sent _ => exact answerSent_linePass s
  | @block t _ hr before after =>
    have running : t.run = .running := before.calm.run.trans hr
    exact ((before.calm.linePass hr).trans (scanStep_linePass running)).trans
      (after.calm.linePass ((scanStep_run t).trans running))
  | sample _ xs => exact samplePeriod_linePass xs s
  | restarted hr => exact restart_linePass hr
  | held => exact hold_linePass s
  | poweredDown => exact powerDown_linePass s
  | startedUp => exact startUp_linePass s

/-- Settles O58: work leaves the line and the samples alone; a frame, a byte, an answer sent, a scan step and a sample
period each keep the six laws, and the sequences set them afresh. -/
theorem signalAndLineLawsKept : Obligations.SignalAndLineLawsKept := by
  unfold Obligations.SignalAndLineLawsKept
  intro s t h
  have pass : LinePass s t := by
    obtain rfl | ⟨rest, h⟩ := step_case h
    · exact .refl t
    · exact (Untouched.linePass (t := { s with pending := rest }) {}).trans h.linePass
  exact ⟨pass.samples, pass.clock, pass.framing, pass.scan, pass.answers, pass.attention⟩

end Sys2Proof.Machine

namespace Sys2Proof.Machine
open Sys2Proof.Safety

/-! ## The target gain and demand (O36) -/

theorem forcedOff_iff (st : RouteState) :
    forcedOff st = true ↔ (∃ c, st = .halted c) ∨ st = .retiring ∨ ∃ d, st = .dipping d := by
  cases st <;> simp [forcedOff]

theorem soundingState_iff (st : RouteState) : soundingState st = true ↔ st = .steady ∨ st = .ramping := by
  cases st <;> simp [soundingState]

theorem demandState_iff (st : RouteState) :
    demandState st = true ↔ st = .steady ∨ st = .ramping ∨ ∃ p, st = .dipping p := by
  cases st <;> simp [demandState]

theorem State.nomTerm_eq (s : State) (i : InputIx) :
    s.nomTerm i =
      if (s.inputSettings i).mode = .auto then nomtab (s.listOf (s.inputSettings i).precinct).length else 0 := by
  unfold State.nomTerm
  split <;> simp [*]

theorem State.gateTerm_eq (s : State) (i : InputIx) :
    s.gateTerm i =
      if (s.inputSettings i).mode = .auto ∧ (s.gates.inputs.get i).gate = .closed then (s.inputSettings i).closedAtt
      else 0 := by
  unfold State.gateTerm State.gateOf
  cases (s.inputSettings i).mode with
  | auto => cases (s.gates.inputs.get i).gate <;> rfl
  | fixed => rfl
  | muted => rfl

theorem State.duckTerm_eq (s : State) (r : Route) :
    s.duckTerm r =
      if (s.inputSettings r.input).cls ≠ .announce ∧ s.announcedIn r.zone = true then (s.zoneSettings r.zone).duck
      else 0 := by
  unfold State.duckTerm
  by_cases announce : (s.inputSettings r.input).cls = .announce
  · simp [announce]
  · simp [announce]

/-- An input's gate lets it sound when it is FIXED, or AUTO with a gate that is not CLOSED (R35). -/
theorem State.gateOf_ne_closed (s : State) (i : InputIx) :
    s.gateOf i ≠ .closed ↔
      (s.inputSettings i).mode = .fixed
        ∨ ((s.inputSettings i).mode = .auto ∧ (s.gates.inputs.get i).gate ≠ .closed) := by
  unfold State.gateOf
  cases (s.inputSettings i).mode <;> simp

theorem State.announces_iff (s : State) (r : Route) :
    s.announces r = true ↔
      (s.inputSettings r.input).cls = .announce
        ∧ ((s.inputSettings r.input).mode = .fixed
          ∨ ((s.inputSettings r.input).mode = .auto ∧ (s.gates.inputs.get r.input).gate ≠ .closed))
        ∧ (r.state = .steady ∨ r.state = .ramping) ∧ -480 < r.live.level := by
  rw [State.announces, ← State.gateOf_ne_closed, ← soundingState_iff]
  simp [OFF, and_assoc]

theorem State.announcedIn_iff (s : State) (z : ZoneIx) :
    s.announcedIn z = true ↔ ∃ k r, s.route? k = some r ∧ r.zone = z ∧ s.announces r = true := by
  rw [State.announcedIn, Table.any_eq_true]
  refine exists_congr fun k => ?_
  cases h : s.engine.table.get k <;> simp [State.route?, h]

theorem State.offCondition_iff (s : State) (r : Route) :
    s.offCondition r = true ↔
      (∃ c, r.state = .halted c) ∨ r.state = .retiring ∨ (∃ d, r.state = .dipping d) ∨ r.live.level = -480
        ∨ (s.inputSettings r.input).mode = .muted ∨ (s.zoneLive r.zone).live = false
        ∨ (s.zoneLive r.zone).power ≠ .active := by
  have forced := forcedOff_iff r.state
  simp only [State.offCondition, OFF, Bool.or_eq_true, decide_eq_true_eq, Bool.not_eq_true', forced, or_assoc]

theorem State.evalTarget_of_off {s : State} {r : Route} (h : s.offCondition r = true) :
    s.evalTarget r = (-480, false) := by
  rw [State.evalTarget, if_pos h, OFF]

theorem State.evalTarget_of_on {s : State} {r : Route} (h : ¬ s.offCondition r = true) :
    s.evalTarget r = limitGain (s.rawGain r) (s.zoneSettings r.zone).ceiling := by
  rw [State.evalTarget, if_neg h]

theorem limitGain_above {raw ceiling : Int} (h : ceiling < raw) : limitGain raw ceiling = (ceiling, true) := by
  rw [limitGain, if_pos h]

theorem limitGain_within {raw ceiling : Int} (h : raw ≤ ceiling) (floor : -480 ≤ raw) :
    limitGain raw ceiling = (raw, false) := by
  rw [limitGain, if_neg (not_lt.mpr h), if_neg (not_lt.mpr floor)]

theorem limitGain_below {raw ceiling : Int} (h : raw ≤ ceiling) (floor : raw < -480) :
    limitGain raw ceiling = (-480, false) := by
  rw [limitGain, if_neg (not_lt.mpr h), OFF, if_pos floor]

theorem State.hasDemand_iff (s : State) (r : Route) :
    s.hasDemand r = true ↔
      (r.state = .steady ∨ r.state = .ramping ∨ ∃ p, r.state = .dipping p)
      ∧ (s.zoneLive r.zone).live = true ∧ (s.inputSettings r.input).mode ≠ .muted ∧ -480 < r.live.level
      ∧ -480 < s.rawGain r := by
  have state := demandState_iff r.state
  simp only [State.hasDemand, OFF, Bool.and_eq_true, decide_eq_true_eq, state, and_assoc]

/-- NOMTAB[n] is 40·log10 n to the nearest integer (R32), put in whole numbers. -/
theorem nomtab_rounds {n : Nat} (low : 2 ≤ n) (high : n ≤ 16) :
    10 ^ (2 * (nomtab n).toNat - 1) ≤ n ^ 80 ∧ n ^ 80 < 10 ^ (2 * (nomtab n).toNat + 1) := by
  interval_cases n <;> decide

/-- Settles O36: the evaluation's tests and terms, one lemma each. -/
theorem targetGainByItsTerms : Obligations.TargetGainByItsTerms := by
  unfold Obligations.TargetGainByItsTerms
  refine ⟨fun s r => ⟨fun off => ?_, ?_⟩, ?_, fun s z => ?_, rfl, rfl, fun n => nomtab_rounds⟩
  · exact State.evalTarget_of_off ((s.offCondition_iff r).mpr off)
  · rintro sounding level mode live active i z rfl rfl n g d raw hn hg hd hraw
    obtain rfl : s.rawGain r = raw := by
      rw [hraw, hn, hg, hd, State.rawGain, State.nomTerm_eq, State.gateTerm_eq, State.duckTerm_eq]
    have on : ¬ s.offCondition r = true := by
      rw [State.offCondition_iff]
      rcases sounding with h | h <;> simp [h, level, mode, live, active]
    rw [State.evalTarget_of_on on]
    exact ⟨limitGain_above, limitGain_within, limitGain_below⟩
  · rintro s r i z rfl rfl n g d raw hn hg hd hraw
    obtain rfl : s.rawGain r = raw := by
      rw [hraw, hn, hg, hd, State.rawGain, State.nomTerm_eq, State.gateTerm_eq, State.duckTerm_eq]
    exact s.hasDemand_iff r
  · simp only [State.announcedIn_iff, State.announces_iff]

/-! ## Demand told to the zones (O29) -/

theorem State.demandCount_eq (s : State) (t : Table (Option Route) 256) (z : ZoneIx) :
    s.demandCount t z = slotCount fun k => (t.get k).any fun r => r.zone = z && s.hasDemand r := by
  rw [State.demandCount, Table.count_eq, slotCount]
  congr 2
  funext k
  cases t.get k <;> rfl

section

variable (s : State) (z : ZoneIx)

theorem State.takeCount_same {old new : Nat} (h : old = 0 ↔ new = 0) : s.takeCount z old new = s := by
  rw [State.takeCount, if_neg (by omega), if_neg (by omega)]

theorem State.takeCount_leaves_zero {new : Nat} (h : 0 < new) : s.takeCount z 0 new = s.takeDemand z true := by
  rw [State.takeCount, if_pos ⟨rfl, h⟩]

theorem State.takeCount_becomes_zero {old : Nat} (h : 0 < old) : s.takeCount z old 0 = s.takeDemand z false := by
  rw [State.takeCount, if_neg (by omega), if_pos ⟨h, rfl⟩]

/-- The later of two writes of one zone's live record stands. -/
theorem State.setZoneLive_setZoneLive (l m : ZoneLive) : (s.setZoneLive z l).setZoneLive z m = s.setZoneLive z m := by
  have zones : (s.power.zones.set z l).set z m = s.power.zones.set z m :=
    Table.ext_get fun y => by
      simp only [Table.get_set]
      split <;> rfl
  simp [State.setZoneLive, zones]

theorem State.setZoneLive_zoneSettings (l : ZoneLive) : (s.setZoneLive z l).zoneSettings z = s.zoneSettings z :=
  rfl

theorem standbyTimer_eq (delay : Nat) :
    standbyTimer delay = if delay = 0 then .none else .standby (48000 * delay) := by
  rw [standbyTimer, standbyPeriods, Nat.mul_comm]

theorem State.takeDemand_of_marked {present : Bool}
    (h : (s.zoneLive z).power = .absent ∨ (s.zoneLive z).power = .waking ∨ (s.zoneLive z).power = .fault) :
    s.takeDemand z present = s.setZoneLive z { s.zoneLive z with demandPresent := present } := by
  unfold State.takeDemand
  rcases h with h | h | h <;> simp [h]

theorem State.takeDemand_standby (h : (s.zoneLive z).power = .standby) :
    s.takeDemand z true =
        (s.setZoneLive z
          { s.zoneLive z with
            demandPresent := true
            power := .waking
            ampEnabled := true
            timer := .wake (4800 * (s.zoneSettings z).wakeTime) }).raise .zoneChange
      ∧ s.takeDemand z false = s.setZoneLive z { s.zoneLive z with demandPresent := false } := by
  unfold State.takeDemand State.enterWaking
  constructor
  · simp [h, State.setZoneLive_zoneSettings, State.setZoneLive_zoneLive, State.setZoneLive_setZoneLive, wakePeriods, Nat.mul_comm]
  · simp [h]

theorem State.takeDemand_active (h : (s.zoneLive z).power = .active) :
    s.takeDemand z true = s.setZoneLive z { s.zoneLive z with demandPresent := true, timer := .none }
      ∧ s.takeDemand z false =
          s.setZoneLive z
            { s.zoneLive z with
              demandPresent := false
              timer :=
                if (s.zoneSettings z).standbyDelay = 0 then .none
                else .standby (48000 * (s.zoneSettings z).standbyDelay) } := by
  unfold State.takeDemand
  constructor
  · simp [h, State.setZoneLive_setZoneLive]
  · simp [h, State.setZoneLive_zoneSettings, State.setZoneLive_setZoneLive, standbyTimer_eq]

end

/-- Settles O29: a demand count is a count over the slots, and what is told acts by the zone's power state. -/
theorem demandMovesZones : Obligations.DemandMovesZones := by
  unfold Obligations.DemandMovesZones
  exact fun s z =>
    ⟨fun table => s.demandCount_eq table z, fun _ _ => s.takeCount_same z, fun _ => s.takeCount_leaves_zero z,
      fun _ => s.takeCount_becomes_zero z, fun _ => s.takeDemand_of_marked z, s.takeDemand_standby z,
      s.takeDemand_active z⟩

end Sys2Proof.Machine

namespace Sys2Proof.Machine
open Sys2Proof.Safety

/-! ## Rounded arithmetic (O38) -/

/-- What the search ends on is allowed, and the number after it is not. -/
theorem searchBits_spec {ok : Nat → Bool} (k : Nat) {c : Nat} (low : ok c = true) (high : ok (c + 2 ^ k) = false) :
    ok (searchBits ok k c) = true ∧ ok (searchBits ok k c + 1) = false := by
  induction k generalizing c with
  | zero => exact ⟨low, high⟩
  | succ k ih =>
    unfold searchBits
    split
    · next mid => exact ih mid (by rwa [Nat.add_assoc, ← Nat.two_mul, ← Nat.pow_succ'])
    · next mid => exact ih low (by simpa using mid)

theorem coeffAtLeast_succ {g : Int} {c : Nat} :
    coeffAtLeast g (c + 1) = true ↔ (2 * c + 1) ^ 80 * 10 ^ (-g).toNat ≤ 4194304 ^ 80 * 10 ^ g.toNat := by
  rw [coeffAtLeast, Bool.or_eq_true, decide_eq_true_eq, decide_eq_true_eq, show 2 * (c + 1) - 1 = 2 * c + 1 by omega]
  exact or_iff_right (Nat.succ_ne_zero c)

/-- Above −480 the coefficient is at least 2: `3 · 10^(480/80)` is below 4,194,304. -/
theorem coeffAtLeast_two {g : Int} (h : -480 < g) {c : Nat} (hc : c ≤ 1) : coeffAtLeast g (c + 1) = true := by
  refine coeffAtLeast_succ.mpr ?_
  have base : 3 * 10 ^ 6 ≤ 4194304 := by norm_num
  calc (2 * c + 1) ^ 80 * 10 ^ (-g).toNat
      ≤ 3 ^ 80 * 10 ^ (6 * 80) :=
        Nat.mul_le_mul (Nat.pow_le_pow_left (by omega) _) (Nat.pow_le_pow_right (by omega) (by omega))
    _ = (3 * 10 ^ 6) ^ 80 := by rw [Nat.mul_pow, ← Nat.pow_mul]
    _ ≤ 4194304 ^ 80 := Nat.pow_le_pow_left base _
    _ ≤ 4194304 ^ 80 * 10 ^ g.toNat := Nat.le_mul_of_pos_right _ (Nat.pow_pos (by omega))

/-- Up to +48 the coefficient is at most 8,348,912. -/
theorem coeffAtLeast_large {g : Int} (h : g ≤ 48) {c : Nat} (hc : 8348912 ≤ c) : coeffAtLeast g (c + 1) = false := by
  refine Bool.eq_false_iff.mpr fun e => absurd (coeffAtLeast_succ.mp e) (not_le.mpr ?_)
  calc 4194304 ^ 80 * 10 ^ g.toNat
      ≤ 4194304 ^ 80 * 10 ^ 48 := Nat.mul_le_mul_left _ (Nat.pow_le_pow_right (by omega) (by omega))
    _ < 16697825 ^ 80 := by norm_num
    _ ≤ (2 * c + 1) ^ 80 := Nat.pow_le_pow_left (by omega) _
    _ ≤ (2 * c + 1) ^ 80 * 10 ^ (-g).toNat := Nat.le_mul_of_pos_right _ (Nat.pow_pos (by omega))

theorem coefficient_spec {g : Int} (low : -480 < g) (high : g ≤ 48) :
    coeffAtLeast g (coefficient g) = true ∧ coeffAtLeast g (coefficient g + 1) = false := by
  rw [coefficient, if_neg (by simp only [OFF]; omega)]
  exact searchBits_spec 23 rfl (coeffAtLeast_large (c := 8388607) high (by omega))

theorem coefficient_bounds {g : Int} (low : -480 < g) (high : g ≤ 48) :
    2 ≤ coefficient g ∧ coefficient g ≤ 8348912 := by
  obtain ⟨reached, next⟩ := coefficient_spec low high
  constructor
  · by_contra small
    simp [coeffAtLeast_two low (c := coefficient g) (by omega)] at next
  · by_contra large
    obtain ⟨c, e⟩ : ∃ c, coefficient g = c + 1 := ⟨coefficient g - 1, by omega⟩
    rw [e, coeffAtLeast_large high (by omega)] at reached
    simp at reached

/-- The coefficient is the nearest integer, in whole numbers (R42). -/
theorem coefficient_rounds {g : Int} (low : -480 < g) (high : g ≤ 48) :
    (2 * coefficient g - 1) ^ 80 * 10 ^ (-g).toNat ≤ 4194304 ^ 80 * 10 ^ g.toNat
      ∧ 4194304 ^ 80 * 10 ^ g.toNat < (2 * coefficient g + 1) ^ 80 * 10 ^ (-g).toNat := by
  obtain ⟨reached, next⟩ := coefficient_spec low high
  obtain ⟨two, -⟩ := coefficient_bounds low high
  constructor
  · simpa [coeffAtLeast, show coefficient g ≠ 0 by omega] using reached
  · exact not_le.mp fun e => by simp [coeffAtLeast_succ.mpr e] at next

/-- The search for a block peak ends on the least of the `k` numbers from `q` on that the magnitude reaches, or just
after them. -/
theorem searchPeak_spec (m k q : Nat) :
    q ≤ searchPeak m k q ∧ searchPeak m k q ≤ q + k
      ∧ (q < searchPeak m k q → peakAtLeast m (searchPeak m k q - 1) = false)
      ∧ (searchPeak m k q < q + k → peakAtLeast m (searchPeak m k q) = true) := by
  induction k generalizing q with
  | zero => simp [searchPeak]
  | succ k ih =>
    unfold searchPeak
    split
    · next here => exact ⟨le_rfl, by omega, fun h => absurd h (lt_irrefl q), fun _ => here⟩
    · next here =>
      obtain ⟨low, high, before, at_⟩ := ih (q + 1)
      refine ⟨by omega, by omega, fun _ => ?_, fun h => at_ (by omega)⟩
      by_cases first : searchPeak m k (q + 1) = q + 1
      · simpa [first] using here
      · exact before (by omega)

theorem blockPeak_rounds {m : Nat} (hm : 0 < m) :
    ∃ q : Nat, blockPeak m = -(q : Int) ∧ q ≤ 480
      ∧ (0 < q → m ^ 160 * 10 ^ (2 * q - 1) < 8388608 ^ 160)
      ∧ (q < 480 → 8388608 ^ 160 ≤ m ^ 160 * 10 ^ (2 * q + 1)) := by
  obtain ⟨-, high, before, at_⟩ := searchPeak_spec m 480 0
  rw [Nat.zero_add] at high at_
  refine ⟨searchPeak m 480 0, by rw [blockPeak, if_neg hm.ne'], high, fun h => ?_, fun h => ?_⟩
  · have reached := before h
    rw [peakAtLeast, decide_eq_false_iff_not, not_le] at reached
    rwa [show 2 * searchPeak m 480 0 - 1 = 2 * (searchPeak m 480 0 - 1) + 1 by omega]
  · have reached := at_ h
    rwa [peakAtLeast, decide_eq_true_eq] at reached

/-- Settles O38: each search ends where its test turns, and the tests are the roundings in whole numbers. -/
theorem arithmeticRounds : Obligations.ArithmeticRounds := by
  unfold Obligations.ArithmeticRounds
  refine ⟨rfl, fun g low high => ?_, rfl, fun m hm _ => blockPeak_rounds hm, fun d p => ⟨rfl, ?_⟩⟩
  · obtain ⟨two, most⟩ := coefficient_bounds low high
    exact ⟨two, most, coefficient_rounds low high⟩
  · exact ⟨by omega, by omega, by omega, by omega, geometricDelay_le⟩

/-! ## ZONE-LIVE and READ-ZONE (O24) -/

theorem takeZoneLive_range {n m : Nat} (h : outside 24 n ∨ 1 < m) (s : State) :
    takeZoneLive n m s = (s, plain .range) := by
  unfold takeZoneLive
  rcases h with h | h
  · rw [number?_outside h]
  · rw [flag?_of_one_lt h]
    cases number? 24 n <;> rfl

section

variable {s : State} {z : ZoneIx}

theorem takeZoneLive_absent (on : Bool) (h : (s.zoneLive z).power = .absent) :
    takeZoneLive (z.1 + 1) (flagCode on) s = (s, plain .absent) := by
  simp [takeZoneLive, flag?_code, h]

theorem takeZoneLive_set (on : Bool) (h : (s.zoneLive z).power ≠ .absent) :
    takeZoneLive (z.1 + 1) (flagCode on) s =
      (s.setControllerLive z on, some (.ok, uFlag ((s.setControllerLive z on).zoneLive z).live)) := by
  simp [takeZoneLive, flag?_code, h]

end

theorem takeReadZone_range {n : Nat} (h : outside 24 n) (s : State) : takeReadZone n s = (s, plain .range) := by
  simp [takeReadZone, number?_outside h]

theorem takeReadZone_zone (s : State) (z : ZoneIx) :
    takeReadZone (z.1 + 1) s =
      (s.setSignal { s.signal with clips := s.signal.clips.set z false }, some (.ok, s.zoneImage z)) := by
  simp [takeReadZone]

theorem uFlag_eq (b : Bool) : uFlag b = [if b then 1 else 0] := by
  cases b <;> rfl

/-- Settles O24: the owners' answers case by case, and the record's layout by the timer and the key it may hold. -/
theorem zoneLiveAndReadZone : Obligations.ZoneLiveAndReadZone := by
  unfold Obligations.ZoneLiveAndReadZone
  refine ⟨fun s hs => ⟨fun n m h => ?_, fun n h => ?_, fun z => ⟨fun on => ⟨fun h => ?_, fun h => ?_⟩, ?_⟩⟩, ?_⟩
  · exact exec_answered hs rfl (takeZoneLive_range h s)
  · exact exec_answered hs rfl (takeReadZone_range h s)
  · exact exec_answered hs rfl (takeZoneLive_absent on h)
  · rintro live rfl
    refine (exec_answered hs rfl (takeZoneLive_set on h)).trans ?_
    have after : (s.setControllerLive z on).zoneLive z =
        ({ s.zoneLive z with controllerLive := on } : ZoneLive).refreshLive (s.zoneSettings z) := by
      simp [State.setControllerLive, State.setZoneLive_zoneLive]
    rw [after, uFlag_eq]
    rfl
  · exact exec_answered hs rfl (takeReadZone_zone s z)
  · rintro s z v l rfl rfl
    have status : BitVec.ofNat 8 (flagCode !(s.power.amps.get z).settled) =
        if (s.power.amps.get z).settled then 0 else 1 := by
      cases (s.power.amps.get z).settled <;> rfl
    simp only [State.zoneImage, zoneSettingsImage, uFlag_eq, status, uNumber, listenField, s16, u16, u8, signedBytes,
      wordBytes, List.append_assoc, List.cons_append, List.nil_append]
    cases (s.zoneLive z).timer <;> cases (s.zoneSettings z).key <;> rfl

end Sys2Proof.Machine

namespace Sys2Proof.Table

/-- A table's cells are what its places hold, in their order. -/
theorem cells_eq_map_get {α : Type} {n : Nat} (t : Table α n) : t.cells = (List.finRange n).map t.get :=
  List.ext_getElem (by simp [t.size]) fun i _ _ => by simp [get_eq_getElem]

theorem zipWith_cells {α β γ : Type} {n : Nat} (f : α → β → γ) (t : Table α n) (u : Table β n) :
    List.zipWith f t.cells u.cells = (List.finRange n).map fun k => f (t.get k) (u.get k) := by
  rw [cells_eq_map_get t, cells_eq_map_get u, List.zipWith_map, List.zipWith_self]

end Sys2Proof.Table

namespace Sys2Proof.Machine
open Sys2Proof.Safety

/-! ## A sample period (O41) -/

/-! ### Lanes and lines -/

/-- The inputs come on the channels of the lanes in ascending order (R168). -/
theorem inputSamples_eq {ain : Table (Table SampleWord 8) 4} {xs : Table SampleWord 32}
    (h : ∀ (i : InputIx) (lane : Fin 4) (channel : Fin 8), i.1 = 8 * lane.1 + channel.1 →
      xs.get i = (ain.get lane).get channel) :
    inputSamples ain = xs :=
  Table.ext_get fun i => by
    rw [inputSamples, Table.get_ofFn]
    exact (h i (laneOf i).1 (laneOf i).2 (Nat.div_add_mod i.1 8).symm).symm

/-- A channel of an output lane carries its zone's sample unchanged, where that is a 24-bit value (R168). -/
theorem State.aout_toInt {s : State} {z : ZoneIx} {lane : Fin 3} {channel : Fin 8} (hz : z.1 = 8 * lane.1 + channel.1)
    (h : -8388608 ≤ s.signal.outputs.get z ∧ s.signal.outputs.get z ≤ 8388607) :
    (s.aout lane channel).toInt = s.signal.outputs.get z := by
  obtain rfl : zoneOn lane channel = z := Fin.ext hz.symm
  rw [State.aout, BitVec.toInt_ofInt]
  exact Int.bmod_eq_of_le (by omega) (by omega)

theorem dropOldZeros_getD (l : List Int) (d : Nat) : (dropOldZeros l).getD d 0 = l.getD d 0 := by
  induction l generalizing d with
  | nil => rfl
  | cons x xs ih =>
    unfold dropOldZeros
    split
    · next empty =>
      have zeros : ∀ e, xs.getD e 0 = 0 := fun e => by rw [← ih e, empty, List.getD_nil]
      split
      · next hx =>
        rw [List.getD_nil]
        cases d with
        | zero => exact hx.symm
        | succ d => exact (zeros d).symm
      · cases d with
        | zero => rfl
        | succ d => exact (zeros d).symm
    · next kept =>
      cases d with
      | zero => rfl
      | succ d =>
        rw [List.getD_cons_succ, List.getD_cons_succ, ← ih d, kept]

theorem lineAt_pushSample (x : Int) (line : List Int) (d : Nat) :
    lineAt (pushSample x line) d = ((x :: line).take 24001).getD d 0 :=
  dropOldZeros_getD _ d

theorem lineAt_pushSample_zero (x : Int) (line : List Int) : lineAt (pushSample x line) 0 = x := by
  rw [lineAt_pushSample]
  rfl

theorem lineAt_pushSample_succ (x : Int) (line : List Int) {d : Nat} (h : d < 24000) :
    lineAt (pushSample x line) (d + 1) = lineAt line d := by
  rw [lineAt_pushSample, lineAt, List.getD_eq_getElem?_getD, List.getElem?_take_of_lt (by omega),
    List.getElem?_cons_succ, List.getD_eq_getElem?_getD]

theorem lineAt_pushSample_beyond (x : Int) (line : List Int) {d : Nat} (h : 24000 < d) :
    lineAt (pushSample x line) d = 0 := by
  rw [lineAt_pushSample]
  refine List.getD_eq_default _ _ ?_
  rw [List.length_take]
  omega

/-! ### Taps, buses and zones -/

/-- What a slot's tap adds to a zone's bus, given its sample after the bands. -/
def busShare (z : ZoneIx) (t : Option Tap) (sample : Tap → Int) : Int :=
  match t with
  | some p => if p.zone = z then saturate (sample p) * p.coeff else 0
  | none => 0

/-- The sample that a tap reads from its input's line, after its bands. -/
def State.tapSample (s : State) (lines : Table (List Int) 32) (k : SlotIx) (p : Tap) : Int :=
  (runBands p.bands (s.signal.eqMemory.get k) (lineAt (lines.get p.input) p.delay)).2

/-- A zone's bus in a sample period whose samples have entered `lines`: the sum of its taps' shares (R43). -/
def State.busOver (s : State) (lines : Table (List Int) 32) (z : ZoneIx) : Int :=
  ((List.finRange 256).map fun k => busShare z (s.signal.taps.get k) (s.tapSample lines k)).sum

theorem busSum_runTap (s : State) (lines : Table (List Int) 32) (z : ZoneIx) :
    busSum z s.signal.taps (Table.zipWith (runTap lines) s.signal.taps s.signal.eqMemory) = s.busOver lines z := by
  rw [busSum, Table.zipWith_cells, State.busOver]
  refine congrArg List.sum (List.map_congr_left fun k _ => ?_)
  rw [Table.get_zipWith]
  cases s.signal.taps.get k <;> rfl

/-- The lines once the period's samples have entered them. -/
def State.linesAfter (s : State) (xs : Table SampleWord 32) : Table (List Int) 32 :=
  Table.zipWith (fun (x : SampleWord) l => pushSample x.toInt l) xs s.signal.lines

/-- A zone's sample in a period. -/
def State.zoneSampleOf (s : State) (xs : Table SampleWord 32) (z : ZoneIx) : ZoneSample :=
  zoneSample (s.signal.buses.get z) (s.signal.notchMem.get z) (s.busOver (s.linesAfter xs) z)

section

variable (xs : Table SampleWord 32) (s : State)

theorem samplePeriod_lines : (samplePeriod xs s).signal.lines = s.linesAfter xs :=
  rfl

theorem State.linesAfter_get (i : InputIx) :
    (s.linesAfter xs).get i = pushSample (xs.get i).toInt (s.signal.lines.get i) :=
  Table.get_zipWith _ _ _ _

theorem samplePeriod_peaks (i : InputIx) :
    (samplePeriod xs s).signal.peaks.get i = max (s.signal.peaks.get i) (xs.get i).toInt.natAbs :=
  Table.get_zipWith _ _ _ _

theorem samplePeriod_eqMemory (k : SlotIx) :
    (samplePeriod xs s).signal.eqMemory.get k =
      (runTap (s.linesAfter xs) (s.signal.taps.get k) (s.signal.eqMemory.get k)).1 := by
  simp [samplePeriod, tickTimers, State.linesAfter]

theorem samplePeriod_zones (z : ZoneIx) :
    (samplePeriod xs s).signal.outputs.get z = (s.zoneSampleOf xs z).sent
      ∧ (samplePeriod xs s).signal.notchMem.get z = (s.zoneSampleOf xs z).memory
      ∧ (samplePeriod xs s).signal.clips.get z =
          (s.signal.clips.get z
            || ((s.zoneLive z).power = .active && (s.zoneSampleOf xs z).sent ≠ (s.zoneSampleOf xs z).value))
      ∧ (samplePeriod xs s).ring.frames.get z =
          frameSample s.ring.blocks (s.zoneSampleOf xs z) (s.ring.frames.get z) := by
  simp [samplePeriod, tickTimers, State.zoneSampleOf, ← busSum_runTap, State.linesAfter]

theorem samplePeriod_outputs (z : ZoneIx) :
    (samplePeriod xs s).signal.outputs.get z = saturate (s.zoneSampleOf xs z).value :=
  (samplePeriod_zones xs s z).1.trans (zoneSample_sent _ _ _)

theorem samplePeriod_zoneLive (z : ZoneIx) :
    (samplePeriod xs s).zoneLive z = { s.zoneLive z with timer := ZoneTimer.tick (s.zoneLive z).timer } :=
  Table.get_map _ _ _

theorem State.zoneSampleOf_silent {z : ZoneIx} (h : s.signal.buses.get z = none) :
    s.zoneSampleOf xs z = { memory := s.signal.notchMem.get z, value := 0, sent := 0 } := by
  rw [State.zoneSampleOf, h, zoneSample]

theorem State.zoneSampleOf_bus {z : ZoneIx} {cuts : List (NotchIx × NotchCut)} (h : s.signal.buses.get z = some cuts) :
    ((s.zoneSampleOf xs z).memory, (s.zoneSampleOf xs z).value) =
      runNotches cuts (s.signal.notchMem.get z) (roundBus (s.busOver (s.linesAfter xs) z)) := by
  rw [State.zoneSampleOf, h, zoneSample]

theorem samplePeriod_frame :
    samplePeriod xs s =
      { s with
        power := (samplePeriod xs s).power
        ring := { s.ring with frames := (samplePeriod xs s).ring.frames }
        signal :=
          { s.signal with
            lines := (samplePeriod xs s).signal.lines
            elapsed := s.signal.elapsed + 1
            peaks := (samplePeriod xs s).signal.peaks
            eqMemory := (samplePeriod xs s).signal.eqMemory
            notchMem := (samplePeriod xs s).signal.notchMem
            outputs := (samplePeriod xs s).signal.outputs
            clips := (samplePeriod xs s).signal.clips
            clock := (samplePeriod xs s).signal.clock }
        port := { s.port with gap := s.port.gap.map (· + 1) } } :=
  rfl

end

/-! ### The filters -/

theorem runBands_cons {b : EqBand} {bs : List EqBand} {ms ms' : List FilterMemory} {x y z : Int} {m : FilterMemory}
    (hb : runBand b (ms.headD []) x = (m, y)) (hbs : runBands bs ms.tail y = (ms', z)) :
    runBands (b :: bs) ms x = (m :: ms', z) := by
  simp only [runBands, hb, hbs]

theorem runNotches_cons {ms : Table FilterMemory 8} {x y : Int} {k : NotchIx} {c : NotchCut}
    {cs : List (NotchIx × NotchCut)} {m : FilterMemory} (h : runNotch c (ms.get k) x = (m, y)) :
    runNotches ((k, c) :: cs) ms x = runNotches cs (ms.set k m) y := by
  simp only [runNotches, h]

theorem runNotch_bell (c : NotchCut) (low : 4 ≤ c.bin) (high : c.bin ≤ 511) (narrow : 1 ≤ c.width) (wide : c.width ≤ 10) :
    Bell (runNotch c) (c.bin * 23.4375) (-c.depth) c.width := by
  rw [runNotch_eq]
  exact Config.filterBank.notch_response c low high narrow wide

theorem roundBus_rounds (sum : Int) :
    2097152 * roundBus sum ≤ sum + 1048576 ∧ sum + 1048576 < 2097152 * (roundBus sum + 1) := by
  unfold roundBus
  omega

/-- Settles O41: what a sample period leaves in each field. -/
theorem samplePeriodMovesEverySample : Obligations.SamplePeriodMovesEverySample := by
  unfold Obligations.SamplePeriodMovesEverySample
  refine ⟨fun s ain xs hr lanes => ⟨samplePeriod xs s, ?_, fun z lane channel hz => ?_, fun i => ?_, fun z h => ?_,
    fun z h flat => ?_, fun k => ?_, fun z => ⟨(s.zoneSampleOf xs z).value, samplePeriod_outputs xs s z, fun h => ?_,
      fun cuts h => ?_, ?_, ?_⟩, fun z => ?_, fun z => ?_, fun k => ?_, ?_, samplePeriod_frame xs s⟩,
    fun x => rfl, roundBus_rounds, fun ms x => ⟨rfl, fun _ _ _ _ _ _ => runBands_cons⟩,
    fun ms x => ⟨rfl, fun _ _ _ _ _ => runNotches_cons⟩, runNotch_bell⟩
  · rw [← inputSamples_eq lanes]
    exact congrArg Host.Outcome.next (whenRunning_running hr _)
  · refine State.aout_toInt hz ?_
    rw [samplePeriod_outputs]
    exact saturate_bounds _
  · rw [samplePeriod_lines, State.linesAfter_get]
    exact ⟨lineAt_pushSample_zero _ _, fun d => lineAt_pushSample_succ _ _, fun d => lineAt_pushSample_beyond _ _,
      samplePeriod_peaks xs s i⟩
  · rw [samplePeriod_outputs, State.zoneSampleOf_silent xs s h]
    rfl
  · have value := congrArg Prod.snd (State.zoneSampleOf_bus xs s h)
    rw [samplePeriod_outputs, show (s.zoneSampleOf xs z).value = _ from value, runNotches, samplePeriod_lines]
    refine congrArg (fun sum => saturate (roundBus sum)) (congrArg List.sum (List.map_congr_left fun k _ => ?_))
    cases hk : s.signal.taps.get k with
    | none => rfl
    | some p =>
      by_cases hp : p.zone = z
      · simp [busShare, State.tapSample, hp, flat k p hk hp, runBands]
      · simp [busShare, hp]
  · rw [samplePeriod_eqMemory, samplePeriod_lines]
    cases s.signal.taps.get k <;> rfl
  · obtain ⟨-, memory, -, -⟩ := samplePeriod_zones xs s z
    rw [memory, State.zoneSampleOf_silent xs s h]
    exact ⟨rfl, rfl⟩
  · obtain ⟨-, memory, -, -⟩ := samplePeriod_zones xs s z
    rw [memory, State.zoneSampleOf_bus xs s h, samplePeriod_lines]
    refine congrArg (fun sum => runNotches cuts (s.signal.notchMem.get z) (roundBus sum))
      (congrArg List.sum (List.map_congr_left fun k _ => ?_))
    cases s.signal.taps.get k <;> rfl
  · obtain ⟨sent, -, clips, -⟩ := samplePeriod_zones xs s z
    rw [clips, ← sent, samplePeriod_outputs]
    simp
  · obtain ⟨-, -, -, frame⟩ := samplePeriod_zones xs s z
    rw [frame]
    cases s.ring.blocks <;> rfl
  · rw [samplePeriod_zoneLive]
    cases (s.zoneLive z).timer <;> rfl
  · exact Table.get_map _ _ _
  · exact Table.get_map _ _ _
  · change s.signal.clock.tick = _
    unfold Clock.tick
    split <;> rfl

end Sys2Proof.Machine

namespace Sys2Proof.Machine
open Sys2Proof.Safety

/-! ## A block completion (O42) -/

/-! ### What the route engine's work leaves alone -/

/-- From `s` to `t` nothing changes but the route engine, the zones' power, the port and the filter memories of slots. -/
structure RouteOnly (s t : State) : Prop where
  run : t.run = s.run := by rfl
  gates : t.gates = s.gates := by rfl
  ring : t.ring = s.ring := by rfl
  store : t.store = s.store := by rfl
  pending : t.pending = s.pending := by rfl
  signal : t.signal = { s.signal with eqMemory := t.signal.eqMemory } := by rfl

theorem RouteOnly.refl (s : State) : RouteOnly s s := {}

theorem RouteOnly.trans {s t u : State} (h : RouteOnly s t) (g : RouteOnly t u) : RouteOnly s u where
  run := g.run.trans h.run
  gates := g.gates.trans h.gates
  ring := g.ring.trans h.ring
  store := g.store.trans h.store
  pending := g.pending.trans h.pending
  signal := g.signal.trans (congrArg (fun x => { x with eqMemory := u.signal.eqMemory }) h.signal)

/-- What is read of the signal path, but for the filter memories, is the same. -/
theorem RouteOnly.signal_field {s t : State} (h : RouteOnly s t) {α : Type} (f : SignalEngine → α)
    (hf : ∀ g m, f { g with eqMemory := m } = f g) : f t.signal = f s.signal := by
  rw [h.signal, hf]

theorem RouteOnly.raiseIf {s t : State} (h : RouteOnly s t) (c : Bool) (n : Notice) : RouteOnly s (t.raiseIf c n) := by
  cases c
  · exact h
  · exact h.trans {}

theorem flipStep_routeOnly (s : State) : RouteOnly s (flipStep s) :=
  RouteOnly.raiseIf {} _ _

theorem State.applyEntry_routeOnly {s t : State} {c : CueIx} {e : CueEntry} {hs : List Handed}
    (h : s.applyEntry c e = .ok (t, hs)) : RouteOnly s t := by
  obtain ⟨k, _, _, _, _, hr⟩ | ⟨k, i, z, b, -, -, -, -, rfl⟩ | ⟨k, r, -, rfl⟩ | rfl | rfl := State.applyEntry_ok h
  · obtain ⟨r, -, -, rfl⟩ := State.cueRestage_ok hr
    exact {}
  · exact {}
  · exact {}
  · exact .refl _
  · exact {}

theorem takeCue_routeOnly (s : State) : RouteOnly s (takeCue s).1 := by
  unfold takeCue
  split
  · exact .refl s
  · next c rest _ =>
    have popped : RouteOnly s (s.setEngine { s.engine with queue := rest }) := {}
    have applied := popped.trans (applyEntries_induct (R := RouteOnly) (c := c) .refl (fun _ _ _ => .trans)
      (fun _ _ _ _ => State.applyEntry_routeOnly) 0 (s.entriesOf c) (s.setEngine { s.engine with queue := rest })
      { result := { cue := c, applied := 0, skipped := 0, firstSkip := none }, handed := [] })
    exact RouteOnly.raiseIf (applied.trans {}) _ _

theorem takeHanded_routeOnly (s : State) (hs : List Handed) : RouteOnly s (takeHanded s hs) :=
  List.foldlRecOn _ _ (RouteOnly.refl s) fun _ h _ _ => h.trans {}

theorem State.takeDemand_routeOnly (s : State) (z : ZoneIx) (present : Bool) : RouteOnly s (s.takeDemand z present) := by
  unfold State.takeDemand
  dsimp only
  split <;> exact {}

theorem State.takeCount_routeOnly (s : State) (z : ZoneIx) (old new : Nat) : RouteOnly s (s.takeCount z old new) := by
  unfold State.takeCount
  split
  · exact s.takeDemand_routeOnly z true
  · split
    · exact s.takeDemand_routeOnly z false
    · exact .refl s

theorem settleStep_routeOnly (s : State) : RouteOnly s (settleStep s) :=
  List.foldlRecOn (motive := RouteOnly s) _ _ {} fun t h z _ => h.trans (t.takeCount_routeOnly z _ _)

theorem scanStep_routeOnly (s : State) : RouteOnly s (scanStep s) := by
  unfold scanStep
  split
  · exact .refl s
  · next sc _ =>
    have examined : RouteOnly s (examine 16 s sc).1 :=
      examine_induct .refl (fun _ _ _ => .trans) (fun _ _ _ _ _ _ _ => {}) 16 s sc
    split
    · next he =>
      rw [he] at examined
      exact examined.trans {}
    · next he =>
      rw [he] at examined
      exact examined.trans {}

theorem routeWork_routeOnly (zonesFirst : Nat) (s : State) : RouteOnly s (routeWork zonesFirst s) :=
  (flipStep_routeOnly s).trans <| (takeCue_routeOnly _).trans <| (takeHanded_routeOnly _ _).trans <|
    (settleStep_routeOnly _).trans <| (takeHanded_routeOnly _ _).trans (scanStep_routeOnly _)

theorem routeWork_eq {s a : State} {handed : List Handed} (h : takeCue (flipStep s) = (a, handed)) (zonesFirst : Nat) :
    routeWork zonesFirst s =
      scanStep (takeHanded (settleStep (takeHanded a (handed.take zonesFirst))) (handed.drop zonesFirst)) := by
  rw [routeWork, h]

/-! ### Steps 3 to 5 -/

/-- A zone's live record once the zone controller has been told that demand is present, or is not (R132). -/
def ZoneLive.told (v : ZoneSettings) (l : ZoneLive) (present : Bool) : ZoneLive :=
  match l.power, present with
  | .standby, true =>
    { l with demandPresent := true, power := .waking, ampEnabled := true, timer := .wake (4800 * v.wakeTime) }
  | .active, true => { l with demandPresent := true, timer := .none }
  | .active, false =>
    { l with
      demandPresent := false
      timer := if v.standbyDelay = 0 then .none else .standby (48000 * v.standbyDelay) }
  | .standby, false | .absent, _ | .waking, _ | .fault, _ => { l with demandPresent := present }

/-- What a zone is told moves its live record, and wakes a zone in STANDBY with ZONE-CHANGE raised. -/
theorem State.takeDemand_eq (s : State) (z : ZoneIx) (present : Bool) :
    s.takeDemand z present =
      (s.setZoneLive z ((s.zoneLive z).told (s.zoneSettings z) present)).raiseIf
        ((s.zoneLive z).power = .standby && present) .zoneChange := by
  cases hp : (s.zoneLive z).power with
  | absent =>
    rw [s.takeDemand_of_marked z (.inl hp)]
    simp [ZoneLive.told, hp, State.raiseIf]
  | waking =>
    rw [s.takeDemand_of_marked z (.inr (.inl hp))]
    simp [ZoneLive.told, hp, State.raiseIf]
  | fault =>
    rw [s.takeDemand_of_marked z (.inr (.inr hp))]
    simp [ZoneLive.told, hp, State.raiseIf]
  | standby =>
    obtain ⟨woken, marked⟩ := s.takeDemand_standby z hp
    cases present with
    | true => simp [woken, ZoneLive.told, hp, State.raiseIf]
    | false => simp [marked, ZoneLive.told, hp, State.raiseIf]
  | active =>
    obtain ⟨kept, idle⟩ := s.takeDemand_active z hp
    cases present with
    | true => simp [kept, ZoneLive.told, hp, State.raiseIf]
    | false => simp [idle, ZoneLive.told, hp, State.raiseIf]

/-- A zone's live record once its demand count has gone from `old` to `new` (R41). -/
def ZoneLive.counted (v : ZoneSettings) (l : ZoneLive) (old new : Nat) : ZoneLive :=
  if old = 0 ∧ 0 < new then l.told v true else if 0 < old ∧ new = 0 then l.told v false else l

theorem State.takeDemand_zoneLive (s : State) (z y : ZoneIx) (present : Bool) :
    (s.takeDemand z present).zoneLive y =
      if z = y then (s.zoneLive z).told (s.zoneSettings z) present else s.zoneLive y := by
  rw [State.takeDemand_eq, ← State.setZoneLive_zoneLive]
  simp [State.zoneLive]

/-- A count moves the live record of its zone alone. -/
theorem State.takeCount_zoneLive (s : State) (z y : ZoneIx) (old new : Nat) :
    (s.takeCount z old new).zoneLive y =
      if z = y then (s.zoneLive z).counted (s.zoneSettings z) old new else s.zoneLive y := by
  unfold State.takeCount ZoneLive.counted
  split
  · exact s.takeDemand_zoneLive z y true
  · split
    · exact s.takeDemand_zoneLive z y false
    · split
      · next e => rw [e]
      · rfl

theorem State.takeCount_engine (s : State) (z : ZoneIx) (old new : Nat) : (s.takeCount z old new).engine = s.engine := by
  unfold State.takeCount
  rw [State.takeDemand_eq, State.takeDemand_eq]
  split_ifs <;> simp

theorem State.zoneSettings_of_routeOnly {s t : State} (h : RouteOnly s t) (z : ZoneIx) :
    t.zoneSettings z = s.zoneSettings z := by
  rw [State.zoneSettings, h.store]
  rfl

/-- Of the counts told, each zone's own moves its live record. -/
theorem State.foldl_takeCount_zoneLive {old new : ZoneIx → Nat} {zs : List ZoneIx} (once : zs.Nodup) (s : State)
    (z : ZoneIx) :
    (zs.foldl (fun u y => u.takeCount y (old y) (new y)) s).zoneLive z =
      if z ∈ zs then (s.zoneLive z).counted (s.zoneSettings z) (old z) (new z) else s.zoneLive z := by
  induction zs generalizing s with
  | nil => rfl
  | cons y ys ih =>
    obtain ⟨apart, once⟩ := List.nodup_cons.mp once
    rw [List.foldl_cons, ih once, State.zoneSettings_of_routeOnly (s.takeCount_routeOnly y _ _), State.takeCount_zoneLive]
    by_cases e : y = z
    · subst e
      simp [apart]
    · simp [e, Ne.symm e]

theorem settleTable_eq {b : State} {table : Table (Option Route) 256}
    (ht : ∀ k, table.get k = (b.route? k).bind fun r => settleRoute (b.dueOf r) (b.evalTarget r) r) :
    b.settleTable = table :=
  Table.ext_get fun k => by
    rw [ht, State.settleTable, Table.get_map]
    rfl

theorem settleStep_eq {b : State} {table : Table (Option Route) 256} {counts : Table Nat 24}
    (ht : ∀ k, table.get k = (b.route? k).bind fun r => settleRoute (b.dueOf r) (b.evalTarget r) r)
    (hc : ∀ z, counts.get z = b.demandCount table z) :
    settleStep b =
      (List.finRange 24).foldl (fun u z => u.takeCount z (b.engine.demand.get z) (counts.get z))
        { b with engine := { b.engine with table := table, demand := counts } } := by
  obtain rfl := settleTable_eq ht
  obtain rfl : b.countDemand b.settleTable = counts :=
    Table.ext_get fun z => by rw [hc, State.countDemand, Table.get_ofFn]
  rfl

theorem settleStep_engine (b : State) :
    (settleStep b).engine =
      { b.engine with table := b.settleTable, demand := b.countDemand b.settleTable } :=
  List.foldlRecOn (motive := fun u : State => u.engine = _) _ _ rfl fun u h z _ => (u.takeCount_engine z _ _).trans h

theorem settleStep_zoneLive (b : State) (z : ZoneIx) :
    (settleStep b).zoneLive z =
      (b.zoneLive z).counted (b.zoneSettings z) (b.engine.demand.get z) ((b.countDemand b.settleTable).get z) := by
  refine (State.foldl_takeCount_zoneLive (List.nodup_finRange 24) _ z).trans ?_
  rw [if_pos (List.mem_finRange z)]
  rfl

/-- A count wakes a zone only from STANDBY and on leaving zero; else the zone's power state stays (R132). -/
theorem ZoneLive.counted_power (v : ZoneSettings) (l : ZoneLive) (old new : Nat) :
    (l.counted v old new).power = l.power
      ∨ l.power = .standby ∧ (l.counted v old new).power = .waking ∧ old = 0 ∧ 0 < new := by
  unfold ZoneLive.counted
  split
  · next rises =>
    cases hp : l.power with
    | standby => exact .inr ⟨rfl, by simp [ZoneLive.told, hp], rises⟩
    | _ => exact .inl (by simp [ZoneLive.told, hp])
  · split
    · exact .inl (by cases hp : l.power <;> simp [ZoneLive.told, hp])
    · exact .inl rfl


/-! ### Steps 1 and 2 -/

theorem flipStep_engine (s : State) :
    (flipStep s).engine = { s.engine with table := (flipStep s).engine.table } := by
  simp [flipStep, State.mapRoutes]

theorem flipStep_power (s : State) : (flipStep s).power = s.power := by
  simp [flipStep]

theorem takeCue_of_empty {s : State} (h : s.engine.queue = []) : takeCue s = (s, []) := by
  rw [takeCue, h]

theorem scanStep_of_none {s : State} (h : s.engine.scan = none) : scanStep s = s := by
  rw [scanStep, h]

/-- With no cue in the queue and no scan in progress, the route engine flips and settles. -/
theorem routeWork_of_idle {s : State} (queue : s.engine.queue = []) (scan : s.engine.scan = none) (zonesFirst : Nat) :
    routeWork zonesFirst s = settleStep (flipStep s) := by
  have engine := flipStep_engine s
  have queued : (flipStep s).engine.queue = [] := by rw [engine]; exact queue
  have scanning : (settleStep (flipStep s)).engine.scan = none := by rw [settleStep_engine, engine]; exact scan
  rw [routeWork_eq (takeCue_of_empty queued), List.take_nil, List.drop_nil]
  exact scanStep_of_none scanning

/-! ### The completion and the next block -/

/-- The gates once the gate unit has worked on the block's peaks. -/
def State.gatesAfter (s : State) : GateUnit :=
  gateWork (s.signal.peaks.map blockPeak) s.store.working s.gates

/-- What the route engine's work of a completion begins from: the gates have moved, or not yet (R28). -/
def State.beforeRoutes (s : State) (gateFirst : Bool) : State :=
  { s with gates := if gateFirst then s.gatesAfter else s.gates }

/-- What the route engine's work of a completion leaves. -/
def State.afterRoutes (s : State) (gateFirst : Bool) (zonesFirst : Nat) : State :=
  routeWork zonesFirst (s.beforeRoutes gateFirst)

/-- The clock once a waiting move to the house clock has been made (R178). -/
def Clock.moved (c : Clock) : Clock :=
  if c.moving then { c with source := .house, moving := false } else c

theorem clockMove_eq (s : State) : clockMove s = s.setClock s.signal.clock.moved := by
  unfold clockMove Clock.moved
  split <;> rfl

/-- The two orders of gate unit and route engine differ only in the gates that the routes' work reads. -/
theorem completeBlock_eq (gateFirst : Bool) (zonesFirst : Nat) (s : State) :
    completeBlock gateFirst zonesFirst s =
      beginBlock
        (({ s.afterRoutes gateFirst zonesFirst with gates := s.gatesAfter } : State).setClock s.signal.clock.moved) := by
  have routed := routeWork_routeOnly zonesFirst (s.beforeRoutes gateFirst)
  have clock : (s.afterRoutes gateFirst zonesFirst).signal.clock = s.signal.clock := by
    rw [State.afterRoutes, routed.signal]
    rfl
  have worked : (if gateFirst then routeWork zonesFirst (gateStep s) else gateStep (routeWork zonesFirst s)) =
      ({ s.afterRoutes gateFirst zonesFirst with gates := s.gatesAfter } : State) := by
    cases gateFirst with
    | true =>
      have gates : (routeWork zonesFirst (gateStep s)).gates = s.gatesAfter := routed.gates
      rw [← gates]
      rfl
    | false =>
      have gates : (routeWork zonesFirst s).gates = s.gates := routed.gates
      have store : (routeWork zonesFirst s).store = s.store := routed.store
      have peaks : (routeWork zonesFirst s).signal.peaks = s.signal.peaks :=
        routed.signal_field SignalEngine.peaks fun _ _ => rfl
      change gateStep (routeWork zonesFirst s) = (routeWork zonesFirst s).setGates s.gatesAfter
      rw [gateStep, State.gatesAfter, gates, store, peaks]
  rw [completeBlock, worked, clockMove_eq]
  exact congrArg (fun c => beginBlock (State.setClock _ (Clock.moved c))) clock

section

variable (s : State) (gateFirst : Bool) (zonesFirst : Nat)

/-- What a completion leaves, field by field, in terms of what its routes' work leaves. -/
structure Completed (s r t : State) : Prop where
  run : t.run = s.run
  engine : t.engine = r.engine
  gates : t.gates = s.gatesAfter
  power : t.power = r.power
  port : t.port = r.port
  store : t.store = s.store
  pending : t.pending = s.pending
  blocks : t.ring.blocks = (frameBlock r).blocks
  frames : t.ring.frames = (frameBlock r).frames
  zones : t.ring.zones = s.ring.zones.map settleNotches
  lines : t.signal.lines = s.signal.lines
  outputs : t.signal.outputs = s.signal.outputs
  clips : t.signal.clips = s.signal.clips
  clock : t.signal.clock = s.signal.clock.moved
  elapsed : t.signal.elapsed = 0
  peaks : t.signal.peaks = Table.fill 32 0
  taps : t.signal.taps = r.engine.table.map (Option.map (tapOf s.store.working))
  eqMemory : t.signal.eqMemory = Table.zipWith (keptEqMemory s.ring.blocks) r.engine.table r.signal.eqMemory
  buses : t.signal.buses = Table.zipWith busOf r.power.zones s.ring.zones
  notchMem : ∀ z, t.signal.notchMem.get z =
    keptMemory (s.signal.buses.get z).isSome (t.signal.buses.get z).isSome (s.ringOf z).notches (s.signal.notchMem.get z)

theorem completeBlock_completed :
    Completed s (s.afterRoutes gateFirst zonesFirst) (completeBlock gateFirst zonesFirst s) := by
  have routed : RouteOnly (s.beforeRoutes gateFirst) (s.afterRoutes gateFirst zonesFirst) := routeWork_routeOnly _ _
  rw [completeBlock_eq]
  generalize s.afterRoutes gateFirst zonesFirst = r at routed
  obtain ⟨run, -, ring, store, pending, -⟩ := id routed
  exact {
    run := run
    engine := rfl
    gates := rfl
    power := rfl
    port := rfl
    store := store
    pending := pending
    blocks := rfl
    frames := rfl
    zones := congrArg (fun g : RingDetector => g.zones.map settleNotches) ring
    lines := routed.signal_field SignalEngine.lines fun _ _ => rfl
    outputs := routed.signal_field SignalEngine.outputs fun _ _ => rfl
    clips := routed.signal_field SignalEngine.clips fun _ _ => rfl
    clock := rfl
    elapsed := rfl
    peaks := rfl
    taps := congrArg (fun m : Store => r.engine.table.map (Option.map (tapOf m.working))) store
    eqMemory := congrArg (fun g : RingDetector => Table.zipWith (keptEqMemory g.blocks) r.engine.table r.signal.eqMemory) ring
    buses := congrArg (fun g : RingDetector => Table.zipWith busOf r.power.zones g.zones) ring
    notchMem := fun z => by
      have memory : r.signal.notchMem = s.signal.notchMem := routed.signal_field SignalEngine.notchMem fun _ _ => rfl
      have buses : r.signal.buses = s.signal.buses := routed.signal_field SignalEngine.buses fun _ _ => rfl
      have ringOf : r.ringOf z = s.ringOf z := congrArg (fun g : RingDetector => g.zones.get z) ring
      rw [← memory, ← buses, ← ringOf]
      exact Table.get_ofFn _ z }

end

theorem keptMemory_get (wasBus isBus : Bool) (ns : List Notch) (ms : Table FilterMemory 8) (k : NotchIx) :
    (keptMemory wasBus isBus ns ms).get k =
      if wasBus = true ∧ isBus = true ∧ ∃ n, n ∈ ns ∧ n.slot = k ∧ n.fresh = false then ms.get k else [] := by
  rw [keptMemory, Table.get_ofFn]
  refine if_congr ?_ rfl rfl
  simp [and_assoc]

section

variable {s r t : State} (done : Completed s r t)
include done

theorem Completed.route? (k : SlotIx) : t.route? k = r.route? k :=
  congrArg (fun e : RouteEngine => e.table.get k) done.engine

theorem Completed.zoneLive (z : ZoneIx) : t.zoneLive z = r.zoneLive z :=
  congrArg (fun p : ZoneController => p.zones.get z) done.power

theorem Completed.ringOf (z : ZoneIx) : t.ringOf z = settleNotches (s.ringOf z) := by
  rw [State.ringOf, done.zones]
  exact Table.get_map _ _ _

theorem Completed.taps_get (k : SlotIx) : t.signal.taps.get k = (t.route? k).map (tapOf s.store.working) := by
  rw [done.taps, done.route?]
  exact Table.get_map _ _ _

/-- A slot's filter memory goes on where the block has begun with a frame under way and the slot is occupied (R172). -/
theorem Completed.eqMemory_get (k : SlotIx) :
    t.signal.eqMemory.get k = if s.ring.blocks ≠ none ∧ t.route? k ≠ none then r.signal.eqMemory.get k else [] := by
  rw [done.eqMemory, Table.get_zipWith, done.route?, State.route?]
  cases s.ring.blocks <;> cases r.engine.table.get k <;> simp [keptEqMemory]

/-- Exactly the ACTIVE zones form a bus (R43, R176). -/
theorem Completed.buses_get (z : ZoneIx) :
    t.signal.buses.get z = if (t.zoneLive z).power = .active then some (cutsOf (s.ringOf z).notches) else none := by
  rw [done.buses, done.zoneLive]
  exact Table.get_zipWith _ _ _ _

theorem Completed.buses_isSome (z : ZoneIx) :
    (t.signal.buses.get z).isSome = true ↔ (t.zoneLive z).power = .active := by
  rw [done.buses_get]
  split <;> simp [*]

theorem Completed.notchMem_get (z : ZoneIx) (k : NotchIx) :
    (t.signal.notchMem.get z).get k =
      if (s.signal.buses.get z).isSome = true ∧ (t.zoneLive z).power = .active
          ∧ ∃ n, n ∈ (s.ringOf z).notches ∧ n.slot = k ∧ n.fresh = false then
        (s.signal.notchMem.get z).get k
      else [] := by
  rw [done.notchMem, keptMemory_get]
  simp only [done.buses_isSome]

end

/-- A completion with no cue in the queue and no scan in progress: the routes settle after the flips, and a zone's power
state moves only from STANDBY to WAKING, where its demand leaves zero. -/
theorem Completed.idle {s t : State} {gateFirst : Bool} {zonesFirst : Nat}
    (done : Completed s (s.afterRoutes gateFirst zonesFirst) t) (queue : s.engine.queue = [])
    (scan : s.engine.scan = none) {u : State} (hu : u = flipStep (s.beforeRoutes gateFirst)) :
    (∀ k, t.route? k = (u.route? k).bind fun r => settleRoute (u.dueOf r) (u.evalTarget r) r)
    ∧ (∀ z, t.engine.demand.get z = u.demandCount t.engine.table z)
    ∧ t.engine.queue = [] ∧ t.engine.scan = none ∧ t.engine.result = s.engine.result
    ∧ ∀ z, (t.zoneLive z).power = (s.zoneLive z).power
      ∨ ((s.zoneLive z).power = .standby ∧ (t.zoneLive z).power = .waking
        ∧ s.engine.demand.get z = 0 ∧ 0 < t.engine.demand.get z) := by
  have settled : s.afterRoutes gateFirst zonesFirst = settleStep u := by
    rw [hu]
    exact routeWork_of_idle (s := s.beforeRoutes gateFirst) queue scan zonesFirst
  have flipped : u.engine = { s.engine with table := u.engine.table } := by
    rw [hu]
    exact flipStep_engine _
  have power : u.power = s.power := by
    rw [hu]
    exact flipStep_power _
  rw [settled] at done
  have engine : t.engine = { s.engine with table := u.settleTable, demand := u.countDemand u.settleTable } := by
    rw [done.engine, settleStep_engine, flipped]
  refine ⟨fun k => ?_, fun z => ?_, ?_, ?_, ?_, fun z => ?_⟩
  · rw [State.route?, engine]
    exact Table.get_map _ _ _
  · rw [engine]
    exact Table.get_ofFn _ z
  · rw [engine]
    exact queue
  · rw [engine]
    exact scan
  · rw [engine]
  · have live : u.zoneLive z = s.zoneLive z := congrArg (fun p : ZoneController => p.zones.get z) power
    have demand : u.engine.demand = s.engine.demand := by rw [flipped]
    rw [done.zoneLive, settleStep_zoneLive, engine, live, demand]
    exact ZoneLive.counted_power _ _ _ _

/-! ### Notches in their slots -/

theorem cutsOf_ascending (ns : List Notch) : ((cutsOf ns).map Prod.fst).Pairwise (· < ·) := by
  rw [List.pairwise_map, cutsOf, List.pairwise_filterMap]
  refine List.Pairwise.imp (fun {j k} hjk m hm n hn => ?_) (List.pairwise_lt_finRange 8)
  obtain ⟨_, -, rfl⟩ := Option.map_eq_some_iff.mp hm
  obtain ⟨_, -, rfl⟩ := Option.map_eq_some_iff.mp hn
  exact hjk

/-- Where no two notches share a slot, the notch found in a slot is the one that stands there. -/
theorem find?_slot_eq_some {ns : List Notch} (once : (ns.map Notch.slot).Nodup) {k : NotchIx} {n : Notch} :
    (ns.find? fun m => decide (m.slot = k)) = some n ↔ n ∈ ns ∧ n.slot = k := by
  constructor
  · exact fun h => ⟨List.mem_of_find?_eq_some h, by simpa using List.find?_some h⟩
  · rintro ⟨mem, slot⟩
    have holds : decide (n.slot = k) = true := decide_eq_true slot
    obtain ⟨m, hm⟩ := Option.isSome_iff_exists.mp (List.find?_isSome (p := fun m : Notch => decide (m.slot = k)).mpr ⟨n, mem, holds⟩)
    have found : m.slot = k := of_decide_eq_true (List.find?_some (p := fun m : Notch => decide (m.slot = k)) hm)
    rw [hm, List.inj_on_of_nodup_map once (List.mem_of_find?_eq_some hm) mem (found.trans slot.symm)]

theorem mem_cutsOf {ns : List Notch} (once : (ns.map Notch.slot).Nodup) (k : NotchIx) (c : NotchCut) :
    (k, c) ∈ cutsOf ns ↔ ∃ n, n ∈ ns ∧ n.slot = k ∧ c = n.cut := by
  simp only [cutsOf, List.mem_filterMap, List.mem_finRange, true_and, Option.map_eq_some_iff, find?_slot_eq_some once]
  constructor
  · rintro ⟨j, n, ⟨mem, slot⟩, e⟩
    obtain ⟨rfl, rfl⟩ := Prod.mk.inj e
    exact ⟨n, mem, slot, rfl⟩
  · rintro ⟨n, mem, slot, rfl⟩
    exact ⟨k, n, ⟨mem, slot⟩, rfl⟩

/-- Settles O42: the completion is `beginBlock` of what its routes' work leaves (`Completed`). -/
theorem blockCompletionWorksInOrder : Obligations.BlockCompletionWorksInOrder := by
  unfold Obligations.BlockCompletionWorksInOrder
  refine ⟨fun s gateFirst zonesFirst hr => ?_, fun b table counts ht hc => ⟨settleStep_eq ht hc, fun z => ?_⟩,
    fun w r => rfl, fun ns once => ⟨cutsOf_ascending ns, fun k c => ?_⟩⟩
  · have done := completeBlock_completed s gateFirst zonesFirst
    have ran : exec (.blockCompletion gateFirst zonesFirst) s = .next (completeBlock gateFirst zonesFirst s) :=
      congrArg Host.Outcome.next (whenRunning_running hr _)
    generalize completeBlock gateFirst zonesFirst s = t at done ran
    have before : { s with gates := if gateFirst then t.gates else s.gates } = s.beforeRoutes gateFirst := by
      rw [done.gates]
      rfl
    refine ⟨t, ran, done.gates, fun queue scan u hu => ?_, fun a handed ha e he => ?_, done.taps_get, fun k hk => ?_,
      done.buses_get, done.notchMem_get, done.ringOf, done.buses_isSome, done.elapsed, fun i => ?_, done.lines,
      done.outputs, done.clips, done.clock, done.store, done.run, done.pending⟩
    · exact done.idle queue scan (hu.trans (congrArg flipStep before))
    · rw [before] at ha
      obtain rfl : s.afterRoutes gateFirst zonesFirst = e := (routeWork_eq ha zonesFirst).trans he.symm
      exact ⟨done.engine, done.power, done.port, done.blocks, done.frames, done.eqMemory_get⟩
    · rw [done.eqMemory_get, if_neg (by simp [hk])]
    · rw [done.peaks, Table.get_fill]
  · rw [settleStep_zoneLive, State.takeCount_zoneLive, if_pos rfl]
    obtain rfl := settleTable_eq ht
    rw [hc, State.countDemand, Table.get_ofFn]
  · rw [mem_cutsOf once]
    refine exists_congr fun n => and_congr_right fun _ => and_congr_right fun _ => ?_
    cases n with
    | mk slot kind bin depth sinceHit fresh => cases kind <;> exact Iff.rfl

end Sys2Proof.Machine

namespace Sys2Proof.Machine
open Sys2Proof.Safety

/-! ## STAGE-ROUTE (R53, R54) -/

theorem flag?_eq_of_le_one {n : Nat} (h : n ≤ 1) : flag? n = some (n != 0) := by
  interval_cases n <;> rfl

theorem clampChanges_natFromZero {hi : Nat} (x : Option Nat) :
    clampChanges (clampNat 0 hi) x = true ↔ hi < x.getD 0 := by
  cases x with
  | none => simp
  | some a => simp [clampChanges_some, clampNat_ne]

theorem stageClamped_iff (f : StageFields) :
    stageClamped f = true ↔
      (∃ x, f.level = some x ∧ (x < -480 ∨ 48 < x)) ∨ 48 < f.rate.getD 0 ∨ 24000 < f.delay.getD 0 := by
  have level : clampChanges clampLevel f.level = true ↔ ∃ x, f.level = some x ∧ (x < -480 ∨ 48 < x) :=
    clampChanges_int (by decide) _
  have rate : clampChanges clampRate f.rate = true ↔ 48 < f.rate.getD 0 := clampChanges_natFromZero _
  have delay : clampChanges clampDelay f.delay = true ↔ 24000 < f.delay.getD 0 := clampChanges_natFromZero _
  rw [stageClamped, Bool.or_eq_true, Bool.or_eq_true, level, rate, delay, or_assoc]

/-- The delay of a staged bank, in numbers: geometric, the override carried, or the base's (R54). -/
theorem editBank_delay {delay : Option Nat} {geometric : Bool} {d : DelayEdit}
    (h : delayEdit? delay geometric = some d) (b : Bank) (level : Option Int) (rate : Option Nat)
    (preset : Option PresetIx) :
    (editBank b level rate preset d).delay =
      if geometric then none else (delay.map (min 24000)).or b.delay := by
  unfold delayEdit? at h
  split at h <;> cases h
  · rfl
  · rfl
  · simp [editBank, clampDelay, clampNat_zero]

/-- A staged bank in numbers: each field is the one carried, after clamping, or the base's (R54). -/
theorem editBank_eq {f : StageFields} {d : DelayEdit} (h : delayEdit? f.delay f.geometric = some d) (b : Bank)
    (preset : Option PresetIx) :
    editBank b (f.level.map clampLevel) (f.rate.map clampRate) preset d =
      { level := (f.level.map fun x => max (-480) (min 48 x)).getD b.level
        rate := (f.rate.map (min 48)).getD b.rate
        preset := preset.getD b.preset
        delay := if f.geometric then none else (f.delay.map (min 24000)).or b.delay } := by
  have rate : clampRate = min 48 := funext fun n => clampNat_zero _ n
  rw [← editBank_delay h b (f.level.map clampLevel) (f.rate.map clampRate) preset, ← rate]
  rfl

/-- A base, a preset or a delay that no table holds is refused before the route is looked for (R53, R193). -/
theorem takeStageRoute_range {base : Nat} {f : StageFields}
    (h : 1 < base ∨ (∃ p, f.preset = some p ∧ 15 < p) ∨ ((∃ d, f.delay = some d) ∧ f.geometric = true))
    (name : RouteName) (s : State) : takeStageRoute name base f s = (s, plain .range) := by
  unfold takeStageRoute
  split
  · next hk hp hd =>
    rcases h with h | ⟨p, preset, h⟩ | ⟨⟨d, delay⟩, geometric⟩
    · simp [flag?_of_one_lt h] at hk
    · simp [optional?_refused preset (index?_outside (n := 16) h)] at hp
    · simp [delayEdit?, delay, geometric] at hd
  · rfl

section Staging

variable {s : State} {name : RouteName} {k : SlotIx} {r : Route} {base : Nat} {f : StageFields} {keep : Bool}
  {preset : Option PresetIx} {d : DelayEdit}

theorem takeStageRoute_gone (h : s.findRoute name = .ok (k, r)) (hb : flag? base = some keep)
    (hp : f.preset = preset.map Fin.val) (hd : delayEdit? f.delay f.geometric = some d) (hr : r.state = .retiring) :
    takeStageRoute name base f s = (s, some (.gone, uIndex k)) := by
  simp [takeStageRoute, hb, hp, hd, onRoute_ok h, hr]

theorem takeStageRoute_armed (h : s.findRoute name = .ok (k, r)) (hb : flag? base = some keep)
    (hp : f.preset = preset.map Fin.val) (hd : delayEdit? f.delay f.geometric = some d) (hr : r.state ≠ .retiring)
    (ha : r.armed = true) : takeStageRoute name base f s = (s, some (.armed, uIndex k)) := by
  simp [takeStageRoute, hb, hp, hd, onRoute_ok h, hr, ha]

theorem takeStageRoute_staged (h : s.findRoute name = .ok (k, r)) (hb : flag? base = some keep)
    (hp : f.preset = preset.map Fin.val) (hd : delayEdit? f.delay f.geometric = some d) (hr : r.state ≠ .retiring)
    (ha : r.armed = false) :
    takeStageRoute name base f s =
      (s.setSlot k (some (stage keep f preset d r)), some (okStatus (stageClamped f), uIndex k)) := by
  simp [takeStageRoute, hb, hp, hd, onRoute_ok h, hr, ha]

end Staging

/-- Settles O9: the forms refused, then the act on a route that is found, by its state and its arm. -/
theorem stageRouteWritesStagedBank : Obligations.StageRouteWritesStagedBank := by
  unfold Obligations.StageRouteWritesStagedBank
  intro s name base f hs
  refine ⟨fun h => exec_answered hs rfl (takeStageRoute_range h name s), fun preset hbase hp hdelay k r h => ?_⟩
  have hb := flag?_eq_of_le_one hbase
  obtain ⟨d, hd⟩ := delayEdit?_of_not_both hdelay
  refine ⟨fun hr => exec_answered hs rfl (takeStageRoute_gone h hb hp hd hr),
    fun hr ha => exec_answered hs rfl (takeStageRoute_armed h hb hp hd hr ha), fun hr ha b hbank => ?_⟩
  have from_base : (if (base != 0) = true then r.staged else r.live) = b := by
    rw [hbank]
    by_cases e : base = 0 <;> simp [e]
  rw [exec_answered hs rfl (takeStageRoute_staged h hb hp hd hr ha)]
  simp only [okStatus, stageClamped_iff, stage, from_base, editBank_eq hd]
  cases f.delay <;> rfl

/-! ## ARM-ROUTE (R56) -/

section Arming

variable {s : State} {name : RouteName} {k : SlotIx} {r : Route}

theorem takeArmRoute_armed (h : s.findRoute name = .ok (k, r)) (ha : r.armed = true) :
    takeArmRoute name s = (s, some (.ok, uIndex k ++ uFlag r.flip)) :=
  (onRoute_ok h _).trans (if_pos ha)

theorem takeArmRoute_refused {st : Status} (h : s.findRoute name = .ok (k, r)) (ha : r.armed = false)
    (hr : armRefusal r = some st) : takeArmRoute name s = (s, some (st, uIndex k ++ uFlag r.flip)) := by
  simp [takeArmRoute, onRoute_ok h, ha, hr]

theorem takeArmRoute_arms (h : s.findRoute name = .ok (k, r)) (ha : r.armed = false)
    (hr : r.state = .steady ∨ r.state = .ramping) :
    takeArmRoute name s =
      (s.setSlot k (some { r with armed := true }), some (.ok, uIndex k ++ uFlag r.flip)) := by
  simp [takeArmRoute, onRoute_ok h, ha, armRefusal_eq_none.mpr hr]

end Arming

/-- The slot and the flip indicator as an ARM-ROUTE answers them (R56). -/
theorem uIndex_append_uFlag (k : SlotIx) (flip : Bool) :
    uIndex k ++ uFlag flip = [BitVec.ofNat 8 k.1, if flip then 1 else 0] := by
  cases flip <;> rfl

/-- Settles O10: the rows of R56's table, an armed route first. -/
theorem armRouteByState : Obligations.ArmRouteByState := by
  unfold Obligations.ArmRouteByState
  intro s name hs
  refine ⟨fun st h => exec_answered hs rfl (onRoute_error h _), fun k r h body hbody => ?_⟩
  obtain rfl := hbody.trans (uIndex_append_uFlag k r.flip).symm
  exact ⟨fun ha => exec_answered hs rfl (takeArmRoute_armed h ha), fun ha =>
    ⟨fun hr => exec_answered hs rfl (takeArmRoute_refused h ha (by simp [armRefusal, hr])),
      fun c hr => exec_answered hs rfl (takeArmRoute_refused h ha (by simp [armRefusal, hr])),
      fun d hr => exec_answered hs rfl (takeArmRoute_refused h ha (by simp [armRefusal, hr])),
      fun hr => exec_answered hs rfl (takeArmRoute_arms h ha hr)⟩⟩

/-! ## Step 1 of a completion (R59 to R62) -/

/-- A flip, field by field: the exchange of R59 and the new due delay of R60. -/
theorem State.flipRoute_of_flips (s : State) {r : Route} (h : flips r = true) :
    s.flipRoute r =
      { r with
        live := r.staged, staged := r.live, armed := false, flip := !r.flip
        state := if s.dueDelay r.input r.zone r.staged = r.delay then r.state
          else .dipping (s.dueDelay r.input r.zone r.staged) } := by
  have sounding : (swapBanks r).state = .steady ∨ (swapBanks r).state = .ramping := (flips_iff.mp h).2
  rw [State.flipRoute, if_pos h, retap_of_sounding sounding]
  by_cases kept : s.dueDelay r.input r.zone r.staged = r.delay <;> simp [State.dueOf, swapBanks, kept]

theorem State.flipRoute_of_not_flips (s : State) {r : Route} (h : ¬ flips r = true) : s.flipRoute r = r :=
  if_neg h

theorem flipStep_route? (s : State) (k : SlotIx) : (flipStep s).route? k = (s.route? k).map s.flipRoute := by
  rw [← State.mapRoutes_route?]
  simp [State.route?, flipStep]

/-- A slot whose route does not flip, or that is FREE, is left as it was. -/
theorem State.map_flipRoute_of_not_flips {s : State} {k : SlotIx}
    (h : ∀ r, s.route? k = some r → ¬ flips r = true) : (s.route? k).map s.flipRoute = s.route? k := by
  cases hk : s.route? k with
  | none => rfl
  | some r => rw [Option.map_some, s.flipRoute_of_not_flips (h r hk)]

theorem anyFlips_iff (s : State) :
    (s.engine.table.any fun c => c.any flips) = true ↔ ∃ k r, s.route? k = some r ∧ flips r = true := by
  simp only [Table.any_eq_true, Option.any_eq_true, State.route?]

/-- Where some route flips, FLIPPED is raised once the routes have moved (R62). -/
theorem flipStep_of_some {s : State} (h : ∃ k r, s.route? k = some r ∧ flips r = true) :
    flipStep s = (s.mapRoutes s.flipRoute).raise .flipped :=
  if_pos ((anyFlips_iff s).mpr h)

theorem flipStep_of_none {s : State} (h : ∀ k r, s.route? k = some r → ¬ flips r = true) : flipStep s = s := by
  have quiet : ¬ (s.engine.table.any fun c => c.any flips) = true := by
    intro flipped
    obtain ⟨k, r, hr, hf⟩ := (anyFlips_iff s).mp flipped
    exact h k r hr hf
  have table : s.engine.table.map (Option.map s.flipRoute) = s.engine.table :=
    Table.ext_get fun k => (Table.get_map _ _ k).trans (State.map_flipRoute_of_not_flips (h k))
  refine (if_neg quiet).trans ?_
  rw [State.mapRoutes, table]

/-- Settles O39: what a flip does to a route, then whether some route flips. -/
theorem flipExchangesBanks : Obligations.FlipExchangesBanks := by
  unfold Obligations.FlipExchangesBanks
  intro s
  simp only [← flips_iff]
  refine ⟨fun k r hr ha hst due hdue => ?_, fun k h => ?_, fun h => ?_, flipStep_of_none⟩
  · rw [flipStep_route?, hr, Option.map_some, s.flipRoute_of_flips (flips_iff.mpr ⟨ha, hst⟩), hdue]
  · rw [flipStep_route?, State.map_flipRoute_of_not_flips h]
  · rw [flipStep_of_some h]
    rfl

end Sys2Proof.Machine

namespace Sys2Proof.Machine
open Sys2Proof.Safety

/-! ## One cue entry (R80 to R86) -/

/-! ### The tests of the zone (R80) -/

theorem State.inCueZone_safe {s : State} {z : ZoneIx} (h : (s.zoneSettings z).cueSafe = true)
    (act : Except Status State) : s.inCueZone z act = .error .safe := by
  simp [State.inCueZone, State.cueZoneRefusal, h]

theorem State.inCueZone_absent {s : State} {z : ZoneIx} (takesCues : (s.zoneSettings z).cueSafe = false)
    (h : (s.zoneLive z).power = .absent) (act : Except Status State) : s.inCueZone z act = .error .absent := by
  simp [State.inCueZone, State.cueZoneRefusal, takesCues, h]

theorem State.inCueZone_passed {s : State} {z : ZoneIx} (takesCues : (s.zoneSettings z).cueSafe = false)
    (present : (s.zoneLive z).power ≠ .absent) (act : Except Status State) : s.inCueZone z act = act := by
  simp [State.inCueZone, State.cueZoneRefusal, takesCues, present]

/-- An entry of each kind but NOTIFY is some act behind the tests of its zone (R80). -/
theorem State.applyEntry_inCueZone (s : State) (c : CueIx) {e : CueEntry} {z : ZoneIx}
    (h : (∃ i level rate preset delay, e = .place i z level rate preset delay)
      ∨ (∃ i level rate preset delay, e = .set i z level rate preset delay)
      ∨ (∃ i, e = .retire i z) ∨ ∃ on, e = .zone z on) :
    ∃ act result, s.applyEntry c e = (s.inCueZone z act).map result := by
  obtain ⟨i, level, rate, preset, delay, rfl⟩ | ⟨i, level, rate, preset, delay, rfl⟩ | ⟨i, rfl⟩ | ⟨on, rfl⟩ := h
  · exact ⟨_, _, rfl⟩
  · exact ⟨_, _, rfl⟩
  · exact ⟨_, _, rfl⟩
  · exact ⟨_, _, rfl⟩

/-! ### Staging and arming as one act (R82) -/

section Restaging

variable {s : State} {k : SlotIx} {r : Route} (hr : s.route? k = some r) (edit : Route → Route)

include hr

theorem State.cueRestage_refused {st : Status} (h : stageArmRefusal r = some st) :
    s.cueRestage k edit = .error (skipReason st) := by
  simp [State.cueRestage, hr, h]

theorem State.cueRestage_retiring (h : r.state = .retiring) : s.cueRestage k edit = .error .retiring :=
  State.cueRestage_refused (st := .gone) hr edit (by simp [stageArmRefusal, h])

theorem State.cueRestage_armed (h : r.state ≠ .retiring) (ha : r.armed = true) :
    s.cueRestage k edit = .error .armed := by
  refine State.cueRestage_refused (st := .armed) hr edit ?_
  cases hst : r.state with
  | retiring => exact absurd hst h
  | steady | ramping | dipping | halted => simp [stageArmRefusal, hst, ha]

theorem State.cueRestage_halted (ha : r.armed = false) (h : ∃ c, r.state = .halted c) :
    s.cueRestage k edit = .error .halted := by
  obtain ⟨c, h⟩ := h
  exact State.cueRestage_refused (st := .halted) hr edit (by simp [stageArmRefusal, h, ha])

theorem State.cueRestage_dipping (ha : r.armed = false) (h : ∃ d, r.state = .dipping d) :
    s.cueRestage k edit = .error .busy := by
  obtain ⟨d, h⟩ := h
  exact State.cueRestage_refused (st := .busy) hr edit (by simp [stageArmRefusal, h, ha])

theorem State.cueRestage_sounding (ha : r.armed = false) (h : r.state = .steady ∨ r.state = .ramping) :
    s.cueRestage k edit = .ok (s.setSlot k (some (edit r))) := by
  simp [State.cueRestage, hr, stageArmRefusal_eq_none.mpr ⟨h, ha⟩]

end Restaging

/-! ### PLACE (R81) -/

section CuePlacement

variable {s : State} {i : InputIx} {z : ZoneIx} (level : Int) (rate : Option Nat) (preset : Option PresetIx)
  (delay : Option Nat)

theorem State.cuePlace_barred {st : Status} (h : s.zoneRefusal i z = some st) :
    s.cuePlace i z level rate preset delay = .error st := by
  simp [State.cuePlace, h]

/-- A PLACE entry on a held key is a SET entry with each part it carries (R81). -/
theorem State.cuePlace_held {k : SlotIx} (h : s.zoneRefusal i z = none) (hk : s.slotOfKey? i z = some k) :
    s.cuePlace i z level rate preset delay =
      s.cueRestage k (stageArm (some level) rate preset (delay.elim .keep .override)) := by
  cases delay <;> simp [State.cuePlace, h, hk]

theorem State.cuePlace_full (h : s.zoneRefusal i z = none) (hk : s.slotOfKey? i z = none)
    (hf : s.lowestFree? = none) : s.cuePlace i z level rate preset delay = .error .full := by
  simp [State.cuePlace, h, hk, hf]

theorem State.cuePlace_placed {k : SlotIx} (h : s.zoneRefusal i z = none) (hk : s.slotOfKey? i z = none)
    (hf : s.lowestFree? = some k) :
    s.cuePlace i z level rate preset delay = .ok (s.placeAt k i z (placementBank level rate preset delay)) := by
  simp [State.cuePlace, h, hk, hf]

/-- What a PLACE entry stages on a held key, field by field: a part it does not carry is the live bank's (R81, R82). -/
theorem stageArm_placement (r : Route) :
    stageArm (some level) rate preset (delay.elim .keep .override) r =
      { r with
        staged :=
          { level := clampLevel level, rate := (rate.map clampRate).getD r.live.rate
            preset := preset.getD r.live.preset, delay := (delay.map clampDelay).or r.live.delay }
        armed := true } := by
  cases delay <;> rfl

end CuePlacement

/-! ### RETIRE (R84) -/

theorem State.cueRetire_unheld {s : State} {i : InputIx} {z : ZoneIx} (hk : s.slotOfKey? i z = none) :
    s.cueRetire i z = .error .noRoute := by
  simp [State.cueRetire, hk]

theorem State.cueRetire_retiring {s : State} {i : InputIx} {z : ZoneIx} {k : SlotIx} {r : Route}
    (hk : s.slotOfKey? i z = some k) (hr : s.route? k = some r) (h : r.state = .retiring) :
    s.cueRetire i z = .error .retiring := by
  simp [State.cueRetire, hk, hr, h]

theorem State.cueRetire_retires {s : State} {i : InputIx} {z : ZoneIx} {k : SlotIx} {r : Route}
    (hk : s.slotOfKey? i z = some k) (hr : s.route? k = some r) (h : r.state ≠ .retiring) :
    s.cueRetire i z = .ok (s.setSlot k (some { r with state := .retiring, armed := false })) := by
  simp [State.cueRetire, hk, hr, h, retire_eq r h]

/-! ### Each kind, once its zone has passed the tests -/

section Passed

variable {s : State} {z : ZoneIx} (takesCues : (s.zoneSettings z).cueSafe = false)
  (present : (s.zoneLive z).power ≠ .absent) (c : CueIx) {i : InputIx}

include takesCues present

theorem State.applyEntry_place {level : Int} {rate : Option Nat} {preset : Option PresetIx} {delay : Option Nat}
    {act : Except Status State} (h : s.cuePlace i z level rate preset delay = act) :
    s.applyEntry c (.place i z level rate preset delay) = act.map fun t => (t, []) := by
  rw [State.applyEntry, State.inCueZone_passed takesCues present, h]

theorem State.applyEntry_set_unheld (hk : s.slotOfKey? i z = none) (level : Option Int) (rate : Option Nat)
    (preset : Option PresetIx) (delay : DelayEdit) :
    s.applyEntry c (.set i z level rate preset delay) = .error .noRoute := by
  rw [State.applyEntry, State.inCueZone_passed takesCues present, hk]
  rfl

theorem State.applyEntry_set_held {k : SlotIx} (hk : s.slotOfKey? i z = some k) {level : Option Int}
    {rate : Option Nat} {preset : Option PresetIx} {delay : DelayEdit} {act : Except Status State}
    (h : s.cueRestage k (stageArm level rate preset delay) = act) :
    s.applyEntry c (.set i z level rate preset delay) = act.map fun t => (t, []) := by
  rw [State.applyEntry, State.inCueZone_passed takesCues present, hk]
  exact congrArg _ h

theorem State.applyEntry_retire {act : Except Status State} (h : s.cueRetire i z = act) :
    s.applyEntry c (.retire i z) = act.map fun t => (t, []) := by
  rw [State.applyEntry, State.inCueZone_passed takesCues present, h]

theorem State.applyEntry_zone (on : Bool) : s.applyEntry c (.zone z on) = .ok (s, [(z, on)]) := by
  rw [State.applyEntry, State.inCueZone_passed takesCues present]
  rfl

end Passed

/-- Settles O16: the tests of the zone before each kind, then the tables of PLACE, SET, RETIRE and ZONE row by row,
then NOTIFY. -/
theorem cueEntriesByTheirTables : Obligations.CueEntriesByTheirTables := by
  unfold Obligations.CueEntriesByTheirTables
  refine ⟨fun s c e z he => ?_, fun s c i z takesCues present => ⟨fun level rate preset delay => ?_, fun hk => ?_,
    fun k r hk hr => ?_, State.applyEntry_zone takesCues present c⟩, fun s c => ?_⟩
  · obtain ⟨act, result, h⟩ := s.applyEntry_inCueZone c he
    exact ⟨fun safe => by rw [h, State.inCueZone_safe safe]; rfl,
      fun takesCues absent => by rw [h, State.inCueZone_absent takesCues absent]; rfl⟩
  · have place {act : Except Status State} (h : s.cuePlace i z level rate preset delay = act) :=
      State.applyEntry_place takesCues present c h
    refine ⟨fun hf => place (State.cuePlace_barred level rate preset delay (by simp [State.zoneRefusal, hf])),
      fun hf hw => place (State.cuePlace_barred level rate preset delay (by simp [State.zoneRefusal, hf, hw])),
      fun hf hw hl => place (State.cuePlace_barred level rate preset delay (by simp [State.zoneRefusal, hf, hw, hl])),
      fun hf hw hl => ?_⟩
    have unbarred : s.zoneRefusal i z = none := State.zoneRefusal_eq_none.mpr ⟨hf, hw, hl⟩
    refine ⟨fun k r hk hr => ?_, fun hk =>
      ⟨fun hfree => place (State.cuePlace_full level rate preset delay unbarred hk hfree),
        fun k hfree => place (State.cuePlace_placed level rate preset delay unbarred hk hfree)⟩⟩
    have held := State.cuePlace_held level rate preset delay unbarred hk
    refine ⟨fun h => place (held.trans (State.cueRestage_retiring hr _ h)),
      fun h ha => place (held.trans (State.cueRestage_armed hr _ h ha)),
      fun ha h => place (held.trans (State.cueRestage_halted hr _ ha h)),
      fun ha h => place (held.trans (State.cueRestage_dipping hr _ ha h)), fun ha h => ?_⟩
    rw [place (held.trans (State.cueRestage_sounding hr _ ha h)), stageArm_placement]
    rfl
  · exact ⟨State.applyEntry_set_unheld takesCues present c hk,
      State.applyEntry_retire takesCues present c (State.cueRetire_unheld hk)⟩
  · exact ⟨fun h => ⟨fun _ _ _ _ => State.applyEntry_set_held takesCues present c hk (State.cueRestage_retiring hr _ h),
        State.applyEntry_retire takesCues present c (State.cueRetire_retiring hk hr h)⟩,
      fun h => ⟨fun ha _ _ _ _ => State.applyEntry_set_held takesCues present c hk (State.cueRestage_armed hr _ h ha),
        fun ha h _ _ _ _ => State.applyEntry_set_held takesCues present c hk (State.cueRestage_halted hr _ ha h),
        fun ha h _ _ _ _ => State.applyEntry_set_held takesCues present c hk (State.cueRestage_dipping hr _ ha h),
        fun ha h _ _ _ _ => State.applyEntry_set_held takesCues present c hk (State.cueRestage_sounding hr _ ha h),
        State.applyEntry_retire takesCues present c (State.cueRetire_retires hk hr h)⟩⟩
  · have bit : noticeMask .notify = 0x8 := by decide
    refine ⟨_, rfl, rfl, ?_, ?_⟩
    · simp [State.raise_port, bit]
    · rw [← bit]
      rfl

end Sys2Proof.Machine

namespace Sys2Proof.Machine
open Sys2Proof.Safety

/-! ## A take (R79, R87 to R89) -/

/-- From `s` to `t` nothing changes but the route table, the filter memories of slots, and the notice set with NOTIFY's
cue and ATTN_L: all that an entry can act on. -/
def EntryActs (s t : State) : Prop :=
  t =
    { s with
      engine := { s.engine with table := t.engine.table }
      signal := { s.signal with eqMemory := t.signal.eqMemory }
      port :=
        { s.port with
          notices := t.port.notices
          lastNotify := t.port.lastNotify
          attnLow := t.port.attnLow } }

theorem EntryActs.refl (s : State) : EntryActs s s :=
  rfl

theorem EntryActs.trans {s t u : State} (h : EntryActs s t) (g : EntryActs t u) : EntryActs s u := by
  unfold EntryActs at *
  rw [h] at g
  exact g

theorem State.applyEntry_entryActs {s t : State} {c : CueIx} {e : CueEntry} {hs : List Handed}
    (h : s.applyEntry c e = .ok (t, hs)) : EntryActs s t := by
  obtain ⟨k, _, _, _, _, hr⟩ | ⟨k, i, z, b, -, -, -, -, rfl⟩ | ⟨k, r, -, rfl⟩ | rfl | rfl := State.applyEntry_ok h
  · obtain ⟨r, -, -, rfl⟩ := State.cueRestage_ok hr
    rfl
  · rfl
  · rfl
  · exact .refl _
  · rfl

theorem applyEntries_entryActs (c : CueIx) (n : Nat) (es : List CueEntry) (s : State) (so : TakeSoFar) :
    EntryActs s (applyEntries c n es s so).1 :=
  applyEntries_induct .refl (fun _ _ _ => .trans) (fun _ _ _ _ => State.applyEntry_entryActs) n es s so

/-! ### The count of the entries (R87) -/

theorem applyEntries_applied {s u : State} {c : CueIx} {e : CueEntry} {hs : List Handed}
    (h : s.applyEntry c e = .ok (u, hs)) (n : Nat) (es : List CueEntry) (so : TakeSoFar) :
    applyEntries c n (e :: es) s so =
      applyEntries c (n + 1) es u
        { result := { so.result with applied := so.result.applied + 1 }, handed := so.handed ++ hs } := by
  rw [applyEntries, h]

theorem applyEntries_skipped {s : State} {c : CueIx} {e : CueEntry} {st : Status}
    (h : s.applyEntry c e = .error st) (n : Nat) (es : List CueEntry) (so : TakeSoFar) :
    applyEntries c n (e :: es) s so =
      applyEntries c (n + 1) es s
        { result :=
            { so.result with
              skipped := so.result.skipped + 1
              firstSkip := so.result.firstSkip.or (some (n, st)) }
          handed := so.handed } := by
  rw [applyEntries, h]

theorem applyEntries_cue (c : CueIx) (n : Nat) (es : List CueEntry) (s : State) (so : TakeSoFar) :
    (applyEntries c n es s so).2.result.cue = so.result.cue := by
  induction es generalizing n s so with
  | nil => rfl
  | cons e es ih =>
    cases h : s.applyEntry c e with
    | ok a => rw [applyEntries_applied h, ih]
    | error st => rw [applyEntries_skipped h, ih]

/-- Each entry is counted once, as applied or as skipped. -/
theorem applyEntries_count (c : CueIx) (n : Nat) (es : List CueEntry) (s : State) (so : TakeSoFar) :
    (applyEntries c n es s so).2.result.applied + (applyEntries c n es s so).2.result.skipped =
      so.result.applied + so.result.skipped + es.length := by
  induction es generalizing n s so with
  | nil => rfl
  | cons e es ih =>
    cases h : s.applyEntry c e with
    | ok a =>
      rw [applyEntries_applied h, ih, List.length_cons]
      dsimp only
      omega
    | error st =>
      rw [applyEntries_skipped h, ih, List.length_cons]
      dsimp only
      omega

/-- A result that holds a first skip exactly where it counts one (R88). -/
def CueResult.skipTold (r : CueResult) : Prop :=
  r.firstSkip.isSome = true ↔ 0 < r.skipped

theorem applyEntries_skipTold (c : CueIx) (n : Nat) (es : List CueEntry) (s : State) {so : TakeSoFar}
    (hso : so.result.skipTold) : (applyEntries c n es s so).2.result.skipTold := by
  induction es generalizing n s so with
  | nil => exact hso
  | cons e es ih =>
    cases h : s.applyEntry c e with
    | ok a =>
      rw [applyEntries_applied h]
      exact ih _ _ hso
    | error st =>
      rw [applyEntries_skipped h]
      exact ih _ _ (by simp [CueResult.skipTold])

/-! ### The end of a take (R88, R89) -/

theorem State.entriesOf_defined {s : State} {c : CueIx} {v : Cue} (h : s.cue? c = some v) :
    s.entriesOf c = v.entries := by
  simp [State.entriesOf, h]

/-- How a take stands before its first entry. -/
def TakeSoFar.start (c : CueIx) : TakeSoFar where
  result := { cue := c, applied := 0, skipped := 0, firstSkip := none }
  handed := []

/-- The state in which a take begins: the oldest cue has been removed. -/
def State.popped (s : State) (rest : List CueIx) : State :=
  { s with engine := { s.engine with queue := rest } }

theorem takeCue_of_cons {s : State} {c : CueIx} {rest : List CueIx} (h : s.engine.queue = c :: rest) :
    takeCue s =
      ((applyEntries c 0 (s.entriesOf c) (s.popped rest) (.start c)).1.endTake
          (applyEntries c 0 (s.entriesOf c) (s.popped rest) (.start c)).2.result,
        (applyEntries c 0 (s.entriesOf c) (s.popped rest) (.start c)).2.handed) := by
  rw [takeCue, h]
  rfl

theorem State.endTake_result (s : State) (r : CueResult) : (s.endTake r).engine.result = some r := by
  simp [State.endTake]

theorem State.endTake_queue (s : State) (r : CueResult) : (s.endTake r).engine.queue = s.engine.queue := by
  simp [State.endTake]

/-- The notices that the end of a take raises: CUE-DONE, and CUE-SKIPPED with a skip (R89). -/
theorem State.endTake_notices (s : State) (r : CueResult) :
    (s.endTake r).port.notices = s.port.notices ||| 0x2 ||| if 0 < r.skipped then 0x4 else 0 := by
  have done : noticeMask .cueDone = 0x2 := by decide
  have skipped : noticeMask .cueSkipped = 0x4 := by decide
  simp [State.endTake, State.raiseIf_notices, State.raise_port, done, skipped]

theorem State.endTake_cueDone (s : State) (r : CueResult) : (s.endTake r).port.notices.getLsbD 1 = true := by
  simp [State.endTake_notices]

theorem State.endTake_cueSkipped (s : State) {r : CueResult} (h : 0 < r.skipped) :
    (s.endTake r).port.notices.getLsbD 2 = true := by
  simp [State.endTake_notices, h]

theorem State.endTake_eq (s : State) (r : CueResult) :
    s.endTake r =
      { s with
        engine := { s.engine with result := some r }
        port :=
          { s.port with
            notices := (s.endTake r).port.notices
            attnLow := attention (s.endTake r).port.notices s.port.mask } } := by
  unfold State.endTake
  cases decide (0 < r.skipped) <;> rfl

/-- All that a take touches: the entries' acts, the queue, the result, and ATTN_L as the notices then call for. -/
theorem EntryActs.endTake {s u : State} {rest : List CueIx} (h : EntryActs (s.popped rest) u) (r : CueResult) :
    u.endTake r =
      { s with
        engine := { s.engine with table := (u.endTake r).engine.table, queue := rest, result := some r }
        signal := { s.signal with eqMemory := (u.endTake r).signal.eqMemory }
        port :=
          { s.port with
            notices := (u.endTake r).port.notices
            lastNotify := (u.endTake r).port.lastNotify
            attnLow := attention (u.endTake r).port.notices s.port.mask } } := by
  unfold EntryActs at h
  rw [State.endTake_eq, h]
  rfl

/-- Settles O15: the take as its entries' run and its end, the count by induction on the entries, the frame by what an
entry can act on. -/
theorem cueTakeWritesResult : Obligations.CueTakeWritesResult := by
  unfold Obligations.CueTakeWritesResult
  refine ⟨fun s => takeCue_of_empty, fun s c rest hq => ?_, fun s c rest v hq hv u done hrun => ?_,
    fun c n s done => ⟨rfl, fun e es => ⟨fun u hs h => applyEntries_applied h n es done, fun st h => ?_⟩⟩,
    fun s => ⟨rfl, fun z on hs => ⟨rfl, rfl⟩⟩⟩
  · have acts := applyEntries_entryActs c 0 (s.entriesOf c) (s.popped rest) (.start c)
    have count := applyEntries_count c 0 (s.entriesOf c) (s.popped rest) (.start c)
    rw [takeCue_of_cons hq]
    refine ⟨_, State.endTake_result _ _, applyEntries_cue _ _ _ _ _, count.trans (Nat.zero_add _),
      applyEntries_skipTold _ _ _ _ (by simp [CueResult.skipTold, TakeSoFar.start]), ?_, State.endTake_cueDone _ _,
      State.endTake_cueSkipped _, acts.endTake _⟩
    rw [State.endTake_queue, acts]
    rfl
  · have ran : applyEntries c 0 v.entries (s.popped rest) (.start c) = (u, done) := hrun
    rw [takeCue_of_cons hq, State.entriesOf_defined hv, ran]
    rfl
  · rw [applyEntries_skipped h]
    cases done.result.firstSkip <;> rfl

end Sys2Proof.Machine

namespace Sys2Proof.Machine
open Sys2Proof.Safety

/-! ## WRITE-CUE (R71 to R74) -/

/-! ### The entry forms (R72, R73) -/

theorem all?_eq_none {α β : Type} {f : α → Option β} {as : List α} (h : ∃ a ∈ as, f a = none) : all? f as = none := by
  induction as with
  | nil => simp at h
  | cons a as ih =>
    obtain ⟨b, hb, hf⟩ := h
    rcases List.mem_cons.mp hb with rfl | hb
    · simp [all?, hf]
    · rw [all?, ih ⟨b, hb, hf⟩]
      cases f a <;> rfl

theorem optionalIndex_refused {p : Option Nat} {n : Nat} (h : ∃ k, p = some k ∧ n < k) :
    optional? (index? (n + 1)) p = none := by
  obtain ⟨k, hp, hk⟩ := h
  exact optional?_refused hp (index?_outside hk)

/-- An input, a zone or a preset that no table holds is refused (R73). -/
theorem cueEntry?_refused {i z : Nat} {preset : Option Nat}
    (h : outside 32 i ∨ outside 24 z ∨ ∃ p, preset = some p ∧ 15 < p) (rate delay : Option Nat) :
    (∀ level, cueEntry? (.place i z level rate preset delay) = none)
    ∧ ∀ level geometric, cueEntry? (.set i z level rate preset delay geometric) = none := by
  have identifiers : number? 32 i = none ∨ number? 24 z = none ∨ optional? (index? 16) preset = none :=
    h.imp number?_outside (Or.imp number?_outside optionalIndex_refused)
  constructor
  · intro level
    rw [cueEntry?]
    split
    · next hi hz hp => simp [hi, hz, hp] at identifiers
    · rfl
  · intro level geometric
    rw [cueEntry?]
    split
    · next hi hz hp _ => simp [hi, hz, hp] at identifiers
    · rfl

theorem cueEntry?_retire_refused {i z : Nat} (h : outside 32 i ∨ outside 24 z) : cueEntry? (.retire i z) = none := by
  rw [cueEntry?]
  split
  · next hi hz =>
    rcases h with h | h
    · simp [number?_outside h] at hi
    · simp [number?_outside h] at hz
  · rfl

theorem cueEntry?_zone_refused {z on : Nat} (h : outside 24 z ∨ 1 < on) : cueEntry? (.zone z on) = none := by
  rw [cueEntry?]
  split
  · next hz hon =>
    rcases h with h | h
    · simp [number?_outside h] at hz
    · simp [flag?_of_one_lt h] at hon
  · rfl

theorem clampRate_eq : clampRate = min 48 :=
  funext (clampNat_zero 48)

theorem clampDelay_eq : clampDelay = min 24000 :=
  funext (clampNat_zero 24000)

theorem clampLevel_eq : clampLevel = fun x => max (-480) (min 48 x) :=
  rfl

theorem cueEntry?_place (i : InputIx) (z : ZoneIx) (level : Int) (rate : Option Nat) (preset : Option PresetIx)
    (delay : Option Nat) :
    cueEntry? (.place (i.1 + 1) (z.1 + 1) level rate (preset.map Fin.val) delay) =
      some (.place i z (clampLevel level) (rate.map clampRate) preset (delay.map clampDelay)) := by
  simp [cueEntry?]

/-- A SET entry on identifiers of the tables is stored with the delay edit it asks for, if it asks for one (R72). -/
theorem cueEntry?_set (i : InputIx) (z : ZoneIx) (level : Option Int) (rate : Option Nat) (preset : Option PresetIx)
    (delay : Option Nat) (geometric : Bool) :
    cueEntry? (.set (i.1 + 1) (z.1 + 1) level rate (preset.map Fin.val) delay geometric) =
      (delayEdit? delay geometric).map (.set i z (level.map clampLevel) (rate.map clampRate) preset) := by
  cases h : delayEdit? delay geometric <;> simp [cueEntry?, h]

/-- Whether an entry's rate or delay override is clamped (R73). -/
theorem rateDelayClamped_iff {rate delay : Option Nat} {excess : Prop}
    (h : excess ↔ (∃ x, rate = some x ∧ 48 < x) ∨ ∃ x, delay = some x ∧ 24000 < x) :
    clampChanges clampRate rate = true ∨ clampChanges clampDelay delay = true ↔ excess := by
  have quantity (hi : Nat) (x : Option Nat) :
      clampChanges (clampNat 0 hi) x = true ↔ ∃ a, x = some a ∧ hi < a := by
    simp [clampChanges_nat]
  rw [h, clampRate, clampDelay, quantity, quantity]

theorem entryClamped_place_iff {rate delay : Option Nat} {excess : Prop}
    (h : excess ↔ (∃ x, rate = some x ∧ 48 < x) ∨ ∃ x, delay = some x ∧ 24000 < x) (i z : Nat) (level : Int)
    (preset : Option Nat) :
    entryClamped (.place i z level rate preset delay) = true ↔ level < -480 ∨ 48 < level ∨ excess := by
  have quantity : clampChanges clampLevel (some level) = true ↔ level < -480 ∨ 48 < level :=
    (clampChanges_some _ _).trans (clampInt_ne (by decide))
  rw [entryClamped, Bool.or_eq_true, Bool.or_eq_true, or_assoc, rateDelayClamped_iff h, quantity, or_assoc]

theorem entryClamped_set_iff {rate delay : Option Nat} {excess : Prop}
    (h : excess ↔ (∃ x, rate = some x ∧ 48 < x) ∨ ∃ x, delay = some x ∧ 24000 < x) (i z : Nat) (level : Option Int)
    (preset : Option Nat) (geometric : Bool) :
    entryClamped (.set i z level rate preset delay geometric) = true ↔
      (∃ x, level = some x ∧ (x < -480 ∨ 48 < x)) ∨ excess := by
  have quantity : clampChanges clampLevel level = true ↔ ∃ x, level = some x ∧ (x < -480 ∨ 48 < x) :=
    clampChanges_int (by decide) level
  rw [entryClamped, Bool.or_eq_true, Bool.or_eq_true, or_assoc, rateDelayClamped_iff h, quantity]

/-! ### The cue that a request defines (R71, R73) -/

theorem storedLabel_eq (label : List Byte) : storedLabel label = if label = [] then none else some label := by
  cases label <;> simp [storedLabel]

theorem acceptCue?_accepted {label : List Byte} {entries : List EntryForm} {stored : List CueEntry}
    (each : all? cueEntry? entries = some stored) (short : label.length ≤ 12) (text : label.all isCharacter = true)
    (few : entries.length ≤ 16) :
    acceptCue? label entries =
      some { label := if label = [] then none else some label, entries := stored } := by
  simp [acceptCue?, each, Nat.not_lt.mpr short, Nat.not_lt.mpr few, text, storedLabel_eq]

/-- A label that is too long or no text, or too many entries, is refused whatever the entries say (R73, R193). -/
theorem acceptCue?_oversized {label : List Byte} {entries : List EntryForm}
    (h : 12 < label.length ∨ 16 < entries.length ∨ (!label.all isCharacter) = true) :
    acceptCue? label entries = none := by
  unfold acceptCue?
  split
  · rfl
  · exact if_pos h

theorem acceptCue?_refused {label : List Byte} {entries : List EntryForm}
    (h : 12 < label.length ∨ label.all isCharacter = false ∨ 16 < entries.length
      ∨ ∃ e ∈ entries, cueEntry? e = none) : acceptCue? label entries = none := by
  rcases h with long | text | many | entry
  · exact acceptCue?_oversized (.inl long)
  · exact acceptCue?_oversized (.inr (.inr (by simp [text])))
  · exact acceptCue?_oversized (.inr (.inl many))
  · rw [acceptCue?, all?_eq_none entry]

/-! ### The request (R73) -/

theorem takeWriteCue_range {n : Nat} (h : 63 < n) (form : CueForm) (s : State) :
    takeWriteCue n form s = (s, plain .range) := by
  simp [takeWriteCue, index?_outside (n := 64) h]

section WriteCue

variable {s : State} {c : CueIx}

theorem takeWriteCue_refused {label : List Byte} {entries : List EntryForm} (h : acceptCue? label entries = none) :
    takeWriteCue c.1 (.define label entries) s = (s, plain .range) := by
  simp [takeWriteCue, h]

theorem takeWriteCue_queued {label : List Byte} {entries : List EntryForm} {v : Cue}
    (h : acceptCue? label entries = some v) (hq : c ∈ s.engine.queue) :
    takeWriteCue c.1 (.define label entries) s = (s, plain .busy) := by
  simp [takeWriteCue, h, hq]

theorem takeWriteCue_defined {label : List Byte} {entries : List EntryForm} {v : Cue}
    (h : acceptCue? label entries = some v) (hq : c ∉ s.engine.queue) :
    takeWriteCue c.1 (.define label entries) s =
      (s.setCue c (some v), plain (okStatus (entries.any entryClamped))) := by
  simp [takeWriteCue, h, hq]

theorem takeWriteCue_undefine_queued (h : c ≠ 0) (hq : c ∈ s.engine.queue) :
    takeWriteCue c.1 .undefine s = (s, plain .busy) := by
  simp [takeWriteCue, h, hq]

theorem takeWriteCue_undefined (h : c ≠ 0) (hq : c ∉ s.engine.queue) :
    takeWriteCue c.1 .undefine s = (s.setCue c none, plain .ok) := by
  simp [takeWriteCue, h, hq]

end WriteCue

/-- Settles O13: the request by R73's checks, then each entry form as it is stored or refused, then what is clamped. -/
theorem writeCueReplacesRecord : Obligations.WriteCueReplacesRecord := by
  unfold Obligations.WriteCueReplacesRecord
  refine ⟨fun s c hs => ⟨fun label entries stored each short text few => ?_, fun h hq => ?_, fun h hq => ?_, ?_,
    fun label entries h => ?_, fun n form h => ?_⟩,
    ⟨fun i z level rate preset delay => ?_, fun i z level rate preset delay => ?_,
      fun i z level rate preset delay edit h => ?_, fun i z level rate preset => ?_, fun i z on => ⟨?_, ?_⟩, rfl,
      fun _ => rfl, fun i z rate preset delay h => cueEntry?_refused h rate delay,
      fun i z => cueEntry?_retire_refused, fun z on => cueEntry?_zone_refused⟩,
    fun rate delay excess h => ⟨entryClamped_place_iff h, entryClamped_set_iff h⟩, fun i z => ⟨rfl, rfl⟩, rfl⟩
  · have accepted := acceptCue?_accepted each short text few
    exact ⟨fun hq => exec_answered hs rfl (takeWriteCue_defined accepted hq),
      fun hq => exec_answered hs rfl (takeWriteCue_queued accepted hq)⟩
  · exact exec_answered hs rfl (takeWriteCue_undefined h hq)
  · exact exec_answered hs rfl (takeWriteCue_undefine_queued h hq)
  · exact exec_answered hs rfl rfl
  · exact exec_answered hs rfl (takeWriteCue_refused (acceptCue?_refused h))
  · exact exec_answered hs rfl (takeWriteCue_range h form s)
  · rw [cueEntry?_place, clampRate_eq, clampDelay_eq, clampLevel_eq]
  · exact cueEntry?_set i z level rate preset (some delay) true
  · rw [cueEntry?_set, clampRate_eq, clampLevel_eq]
    obtain ⟨rfl, rfl⟩ | ⟨d, rfl, rfl⟩ := h
    · rfl
    · rw [← clampDelay_eq]
      rfl
  · rw [cueEntry?_set, clampRate_eq, clampLevel_eq]
    rfl
  · simp [cueEntry?]
  · simp [cueEntry?, flag?_code]

/-! ## FIRE-CUE (R76, R77) -/

theorem takeFireCue_range {n : Nat} (h : 63 < n) (s : State) : takeFireCue n s = (s, plain .range) := by
  simp [takeFireCue, index?_outside (n := 64) h]

theorem takeFireCue_undefined {s : State} {c : CueIx} (h : s.cue? c = none) :
    takeFireCue c.1 s = (s, plain .noCue) := by
  simp [takeFireCue, h]

theorem takeFireCue_full {s : State} {c : CueIx} (h : s.cue? c ≠ none) (hq : 4 ≤ s.engine.queue.length) :
    takeFireCue c.1 s = (s, plain .full) := by
  simp [takeFireCue, h, hq]

theorem takeFireCue_queued {s : State} {c : CueIx} (h : s.cue? c ≠ none) (hq : s.engine.queue.length < 4) :
    takeFireCue c.1 s =
      (s.setEngine { s.engine with queue := s.engine.queue ++ [c] }, some (.ok, u16 (s.engine.queue.length + 1))) := by
  simp [takeFireCue, h, Nat.not_le.mpr hq]

/-- Settles O14: R77's checks in order; a length of at most 4 has a high byte of 0. -/
theorem fireCueQueuesDefinedCue : Obligations.FireCueQueuesDefinedCue := by
  unfold Obligations.FireCueQueuesDefinedCue
  refine fun s hs => ⟨fun n h => exec_answered hs rfl (takeFireCue_range h s), fun c =>
    ⟨fun h => exec_answered hs rfl (takeFireCue_undefined h), fun h hq => exec_answered hs rfl (takeFireCue_full h hq),
      fun h hq => ?_⟩⟩
  have high : (s.engine.queue.length + 1) / 256 = 0 := Nat.div_eq_of_lt (by omega)
  have length : u16 (s.engine.queue.length + 1) = [0, BitVec.ofNat 8 (s.engine.queue.length + 1)] := by
    rw [u16, high]
    rfl
  rw [← length]
  exact exec_answered hs rfl (takeFireCue_queued h hq)

end Sys2Proof.Machine

namespace Sys2Proof.Machine
open Sys2Proof.Safety

/-! ## The reading requests -/

/-! ### What each owner answers -/

theorem takeReadInput_input (s : State) (i : InputIx) :
    
    takeReadInput (i.1 + 1) s = (s, some (.ok, s.inputImage i)) := by
  simp [takeReadInput]

theorem takeReadInput_range {n : Nat} (h : outside 32 n) (s : State) : takeReadInput n s = (s, plain .range) := by
  simp [takeReadInput, number?_outside h]

theorem takeReadPrecinct_precinct (s : State) (p : PrecinctIx) :
    takeReadPrecinct (p.1 + 1) s = (s, some (.ok, s.precinctImage p)) := by
  simp [takeReadPrecinct]

theorem takeReadPrecinct_range {n : Nat} (h : outside 4 n) (s : State) :
    takeReadPrecinct n s = (s, plain .range) := by
  simp [takeReadPrecinct, number?_outside h]

theorem takeReadGeometry_entry (s : State) (st : StationIx) (z : ZoneIx) :
    takeReadGeometry (st.1 + 1) (z.1 + 1) s =
      (s, some (.ok, u16 (s.distance st z) ++
        u16 (geometricDelay (s.distance st z) (s.zoneSettings z).precedence))) := by
  simp [takeReadGeometry]

theorem takeReadGeometry_range {n m : Nat} (h : outside 16 n ∨ outside 24 m) (s : State) :
    takeReadGeometry n m s = (s, plain .range) := by
  unfold takeReadGeometry
  split
  · next hst hz =>
    rcases h with h | h
    · simp [number?_outside h] at hst
    · simp [number?_outside h] at hz
  · rfl

theorem takeReadNotches_zone (s : State) (z : ZoneIx) :
    takeReadNotches (z.1 + 1) s = (s, some (.ok, ringImage (s.ringOf z))) := by
  simp [takeReadNotches]

theorem takeReadNotches_range {n : Nat} (h : outside 24 n) (s : State) :
    takeReadNotches n s = (s, plain .range) := by
  simp [takeReadNotches, number?_outside h]

theorem takeReadEq_preset (s : State) (p : Fin 15) :
    takeReadEq (p.1 + 1) s = (s, some (.ok, listField bandImage (s.store.working.presets.get p))) := by
  have index : index? 16 (p.1 + 1) = some p.succ := index?_val p.succ
  have bands : bandsOf s.store.working p.succ = s.store.working.presets.get p := by
    simp [bandsOf]
  rw [takeReadEq, index, ← bands]

theorem takeReadEq_range {n : Nat} (h : 15 < n) (s : State) : takeReadEq n s = (s, plain .range) := by
  simp [takeReadEq, index?_outside (n := 16) h]

theorem takeReadCueResult_some {s : State} {r : CueResult} (h : s.engine.result = some r) :
    takeReadCueResult s = (s, some (.ok, resultImage r)) := by
  simp [takeReadCueResult, h]

theorem takeReadCueResult_none {s : State} (h : s.engine.result = none) :
    takeReadCueResult s = (s, plain .noCue) := by
  simp [takeReadCueResult, h]

theorem takeReadCue_defined {s : State} {c : CueIx} {v : Cue} (h : s.cue? c = some v) :
    takeReadCue c.1 s = (s, some (.ok, cueImage v)) := by
  simp [takeReadCue, h]

theorem takeReadCue_undefined {s : State} {c : CueIx} (h : s.cue? c = none) :
    takeReadCue c.1 s = (s, plain .noCue) := by
  simp [takeReadCue, h]

theorem takeReadCue_range {n : Nat} (h : 63 < n) (s : State) : takeReadCue n s = (s, plain .range) := by
  simp [takeReadCue, index?_outside (n := 64) h]

/-! ### The layout of the records (R193) -/

theorem presence_three (a b c : Bool) :
    presence [a, b, c] = [BitVec.ofNat 8 (flagCode a + 2 * flagCode b + 4 * flagCode c)] := by
  simp only [presence, u8, List.foldr]
  congr 2
  omega

/-- A presence byte of five fields: the first three as they are, the last two as one code (R193). -/
theorem presence_five (a b c d e : Bool) :
    presence [a, b, c, d, e] =
      [BitVec.ofNat 8 (flagCode a + 2 * flagCode b + 4 * flagCode c + (8 * flagCode d + 16 * flagCode e))] := by
  simp only [presence, u8, List.foldr]
  congr 2
  omega

/-- The optional rate and preset of an entry, in that order, each where it is present (R193). -/
theorem optField_rate_preset (rate : Option Nat) (preset : Option PresetIx) :
    optField u8 rate ++ optField uIndex preset =
      (rate.map (BitVec.ofNat 8)).toList ++ (preset.map fun p => BitVec.ofNat 8 p.1).toList := by
  cases rate <;> cases preset <;> rfl

theorem optField_eq_getD {α : Type} (f : α → List Byte) (x : Option α) : optField f x = (x.map f).getD [] := by
  cases x <;> rfl

theorem State.counterOf_eq (s : State) (i : InputIx) :
    s.counterOf i = if (s.inputSettings i).mode = .auto then (s.gates.inputs.get i).counter else 0 := by
  unfold State.counterOf
  cases (s.inputSettings i).mode <;> rfl

/-- An input's place in its precinct's list, as its record carries it (R121). -/
theorem placeField_eq (list : List InputIx) (i : InputIx) :
    presence [(placeIn list i).isSome] ++ optField u8 (placeIn list i) =
      if i ∈ list then [1, BitVec.ofNat 8 (list.idxOf i + 1)] else [0] := by
  unfold placeIn
  split <;> rfl

theorem State.inputImage_eq (s : State) (i : InputIx) :
    s.inputImage i =
      [BitVec.ofNat 8 (classCode (s.inputSettings i).cls), BitVec.ofNat 8 (modeCode (s.inputSettings i).mode),
        BitVec.ofNat 8 ((s.inputSettings i).precinct.1 + 1), BitVec.ofNat 8 ((s.inputSettings i).station.1 + 1)]
      ++ signedBytes (s.inputSettings i).trim ++ signedBytes (s.inputSettings i).threshold
      ++ signedBytes (s.inputSettings i).closedAtt ++ wordBytes (s.inputSettings i).hold
      ++ [BitVec.ofNat 8 (gateCode (s.gateOf i))] ++ wordBytes (s.counterOf i)
      ++ signedBytes (s.gates.inputs.get i).peak
      ++ if i ∈ s.listOf (s.inputSettings i).precinct
        then [1, BitVec.ofNat 8 ((s.listOf (s.inputSettings i).precinct).idxOf i + 1)] else [0] := by
  simp only [State.inputImage, List.append_assoc, placeField_eq]
  rfl

theorem State.precinctImage_eq (s : State) (p : PrecinctIx) :
    s.precinctImage p =
      [BitVec.ofNat 8 (s.precinctSettings p).maxnom, if (s.precinctSettings p).lastOn then 1 else 0,
        BitVec.ofNat 8 (s.listOf p).length]
      ++ (s.listOf p).flatMap fun i =>
        [BitVec.ofNat 8 (i.1 + 1), BitVec.ofNat 8 (gateCode (s.gateOf i))] ++ wordBytes (s.counterOf i) := by
  rw [State.precinctImage, uFlag_eq]
  rfl

/-- Settles O4: each owner's answer, then the records field by field, their optional fields present or absent. -/
theorem readsChangeNothing : Obligations.ReadsChangeNothing := by
  unfold Obligations.ReadsChangeNothing
  refine ⟨fun s hs => ⟨fun i => exec_answered hs rfl (takeReadInput_input s i),
      fun n h => exec_answered hs rfl (takeReadInput_range h s),
      fun p => exec_answered hs rfl (takeReadPrecinct_precinct s p),
      fun n h => exec_answered hs rfl (takeReadPrecinct_range h s),
      fun st z => exec_answered hs rfl (takeReadGeometry_entry s st z),
      fun n m h => exec_answered hs rfl (takeReadGeometry_range h s),
      fun z => exec_answered hs rfl (takeReadNotches_zone s z),
      fun n h => exec_answered hs rfl (takeReadNotches_range h s),
      exec_answered hs rfl rfl,
      fun p => exec_answered hs rfl (takeReadEq_preset s p),
      fun n h => exec_answered hs rfl (takeReadEq_range h s),
      exec_answered hs rfl rfl, exec_answered hs rfl rfl,
      fun r h => exec_answered hs rfl (takeReadCueResult_some h),
      fun h => exec_answered hs rfl (takeReadCueResult_none h),
      fun c v h => exec_answered hs rfl (takeReadCue_defined h),
      fun c h => exec_answered hs rfl (takeReadCue_undefined h),
      fun n h => exec_answered hs rfl (takeReadCue_range h s)⟩,
    ?_, State.precinctImage_eq, fun slot bin sinceHit depth fresh => ⟨rfl, fun width => rfl⟩, fun r => ?_, fun b => ?_,
    fun r => ?_, fun v => ?_, ?_, rfl⟩
  · rintro s i v g list rfl rfl rfl
    rw [State.inputImage_eq, State.counterOf_eq, State.gateOf]
    cases (s.inputSettings i).mode <;> rfl
  · simp only [ringImage, listField, uFlag_eq, List.append_assoc]
    cases r.candidate <;> rfl
  · rw [bandImage]
    cases b.gain <;> rfl
  · rw [resultImage]
    cases r.firstSkip <;> rfl
  · simp only [cueImage, listField, List.append_assoc]
    cases v.label <;> rfl
  · rintro i z rate preset fields rfl
    refine ⟨fun level delay => ?_, fun level edit => ?_, rfl, fun on => ?_⟩
    · have delayField : optField u16 delay = (delay.map wordBytes).getD [] := optField_eq_getD u16 delay
      simp only [entryImage, presence_three, delayField, ← optField_rate_preset, List.append_assoc]
      rfl
    · have levelField : optField s16 level = (level.map signedBytes).getD [] := optField_eq_getD s16 level
      cases edit with
      | keep | geometric =>
        simp only [entryImage, presence_five, levelField, ← optField_rate_preset, List.append_assoc, List.append_nil]
        rfl
      | override d =>
        simp only [entryImage, presence_five, levelField, ← optField_rate_preset, List.append_assoc]
        rfl
    · cases on <;> rfl

end Sys2Proof.Machine

namespace Sys2Proof.Machine
open Sys2Proof.Safety

/-! ## A request during a scan, and the answers' order (O2) -/

theorem Port.beginAnswer_eq (p : Port) : p.beginAnswer = { p with driver := p.beginAnswer.driver } := by
  unfold Port.beginAnswer
  split <;> rfl

/-- The driver is enabled at once where the port hunts; where it does not, it stays as it was (R181). -/
theorem Port.handed_driver (p : Port) (a : Answer) :
    (p.handed a).driver = true ↔ p.phase = .hunting ∨ p.driver = true := by
  cases hp : p.phase with
  | hunting =>
    have waiting : p.answers ++ [a] ≠ [] := List.append_ne_nil_of_right_ne_nil _ (List.cons_ne_nil a [])
    obtain ⟨b, bs, e⟩ := List.exists_cons_of_ne_nil waiting
    simp [Port.handed, Port.beginAnswer, hp, e]
  | collecting | discarding => simp [Port.handed, Port.beginAnswer, hp]

theorem State.hand_eq (s : State) (a : Answer) :
    s.hand a =
      { s with
        port := { s.port with answers := (s.hand a).port.answers, driver := (s.hand a).port.driver } } := by
  conv_lhs => rw [State.hand, Port.beginAnswer_eq]
  rw [State.hand_answers]
  rfl

/-- A request row of the table is an owner's meaning behind the port, under the KIND of its frame. -/
theorem exec_of_requestBody {i : Instr} {kind : Byte} {body : List Byte} (h : requestBody i = some (kind, body)) :
    ∃ owner, ∀ s, exec i s = .next (onRequest kind owner s) := by
  cases ho : ownerOf i with
  | none =>
    have event : requestBody i = none := by cases i <;> cases ho <;> rfl
    simp [event] at h
  | some owner =>
    obtain ⟨k, hk, he⟩ := exec_request ho
    obtain rfl : kind = k := by simpa [kindOf, h] using hk
    exact ⟨owner, he⟩

theorem onFrame_takeFrame_busy {s : State} {p : InProgress} (h : s.run = .running) (hl : s.port.listening = true)
    (hp : s.port.inProgress = some p) (kind : Byte) (body : List Byte) :
    onFrame (takeFrame kind body) s = answered s kind .busy [] := by
  simp [onFrame_listening h hl, takeFrame, hp, State.refuseFrame, answered]

theorem frame_lost_iff (s : State) :
    (s.run ≠ .running ∨ s.port.phase ≠ .hunting ∨ s.port.driver = true)
      ↔ s.run ≠ .running ∨ s.port.listening = false := by
  rw [Bool.eq_false_iff, Ne.eq_def (s.port.listening), listening_iff, not_and_or, Bool.not_eq_false]

/-- Settles O2: an answer's way to the transmitter, then what a frame meets at the port. -/
theorem busyAnswersQueueInOrder : Obligations.BusyAnswersQueueInOrder := by
  unfold Obligations.BusyAnswersQueueInOrder
  refine ⟨fun s kind st body => ⟨State.hand_answers _ _, Port.handed_driver _ _, State.hand_eq _ _⟩,
    fun i s kind body p hb hr hunting released hp => ?_, fun s kind body p hr hunting released hp => ?_,
    fun i s hi lost => ?_⟩
  · obtain ⟨owner, he⟩ := exec_of_requestBody hb
    rw [he, onRequest_busy hr ((listening_iff _).mpr ⟨hunting, released⟩) hp]
  · exact congrArg _ (onFrame_takeFrame_busy hr ((listening_iff _).mpr ⟨hunting, released⟩) hp kind body)
  · rw [frame_lost_iff] at lost
    obtain ⟨kind, body, hb | rfl⟩ := hi
    · obtain ⟨owner, he⟩ := exec_of_requestBody hb
      rw [he, onRequest_lost lost]
    · exact congrArg _ (onFrame_lost lost _)

/-! ## FIND-ROUTES and SWEEP-ROUTES (O17) -/

theorem optional?_eq_some {α β : Type} {f : α → Option β} {g : β → α} (h : ∀ a b, f a = some b ↔ a = g b)
    {x : Option α} {y : Option β} : optional? f x = some y ↔ x = y.map g := by
  cases x <;> cases y <;> simp [optional?, h]

theorem optional?_eq_none {α β : Type} {f : α → Option β} {refused : α → Prop} (h : ∀ a, f a = none ↔ refused a)
    {x : Option α} : optional? f x = none ↔ ∃ a, x = some a ∧ refused a := by
  cases x <;> simp [optional?, h]

theorem number?_eq_none {n k : Nat} : number? n k = none ↔ outside n k := by
  simp only [number?, outside, dite_eq_right_iff, reduceCtorEq, imp_false]
  omega

theorem class?_eq_some (n : Nat) (c : InputClass) : class? n = some c ↔ n = classCode c := by
  unfold class?
  split <;> cases c <;> simp_all [classCode]

theorem slotState?_eq_some (n : Nat) (st : SlotState) : slotState? n = some st ↔ n = slotStateCode st := by
  unfold slotState?
  split <;> cases st <;> simp_all [slotStateCode]

theorem cause?_eq_some (n : Nat) (c : HaltCause) : cause? n = some c ↔ n = causeCode c := by
  unfold cause?
  split <;> cases c <;> simp_all [causeCode]

theorem flag?_eq_some (n : Nat) (b : Bool) : flag? n = some b ↔ n = flagCode b := by
  unfold flag?
  split <;> cases b <;> simp_all [flagCode]

theorem class?_eq_none (n : Nat) : class? n = none ↔ 3 < n := by
  refine ⟨fun h => ?_, class?_outside⟩
  by_contra low
  interval_cases n <;> cases h

theorem slotState?_eq_none (n : Nat) : slotState? n = none ↔ 5 < n := by
  constructor
  · intro h
    by_contra low
    interval_cases n <;> cases h
  · intro h
    unfold slotState?
    split <;> simp_all

theorem cause?_eq_none (n : Nat) : cause? n = none ↔ outside 3 n := by
  constructor
  · intro h
    by_contra within
    obtain ⟨low, high⟩ : 1 ≤ n ∧ n ≤ 3 := by
      simp only [outside] at within
      omega
    interval_cases n <;> cases h
  · intro h
    unfold cause?
    split <;> simp_all [outside]

theorem flag?_eq_none (n : Nat) : flag? n = none ↔ 1 < n := by
  refine ⟨fun h => ?_, flag?_of_one_lt⟩
  by_contra low
  interval_cases n <;> cases h

theorem findMode?_eq_none (n : Nat) : findMode? n = none ↔ 1 < n := by
  constructor
  · intro h
    by_contra low
    interval_cases n <;> cases h
  · intro h
    unfold findMode?
    split <;> simp_all

/-- A selector is accepted exactly where each of its fields is, to its value (R91). -/
theorem selector?_eq_some_iff {form : SelectorForm} {sel : Selector} :
    selector? form = some sel ↔
      optional? (number? 32) form.input = some sel.input ∧ optional? (number? 24) form.zone = some sel.zone
      ∧ optional? (number? 4) form.precinct = some sel.precinct ∧ optional? class? form.cls = some sel.cls
      ∧ optional? slotState? form.state = some sel.state ∧ optional? flag? form.armed = some sel.armed
      ∧ optional? cause? form.cause = some sel.cause ∧ optional? flag? form.limited = some sel.limited := by
  unfold selector?
  split
  · next hi hz hp hc hst ha hh hl =>
    simp only [hi, hz, hp, hc, hst, ha, hh, hl, Option.some.injEq]
    cases sel
    simp only [Selector.mk.injEq]
  · next h =>
    simp only [reduceCtorEq, false_iff]
    rintro ⟨hi, hz, hp, hc, hst, ha, hh, hl⟩
    exact h _ _ _ _ _ _ _ _ hi hz hp hc hst ha hh hl

theorem selector?_eq_none_iff {form : SelectorForm} :
    selector? form = none ↔
      optional? (number? 32) form.input = none ∨ optional? (number? 24) form.zone = none
      ∨ optional? (number? 4) form.precinct = none ∨ optional? class? form.cls = none
      ∨ optional? slotState? form.state = none ∨ optional? flag? form.armed = none
      ∨ optional? cause? form.cause = none ∨ optional? flag? form.limited = none := by
  unfold selector?
  split
  · next hi hz hp hc hst ha hh hl => simp [hi, hz, hp, hc, hst, ha, hh, hl]
  · next h =>
    simp only [true_iff]
    by_contra none
    simp only [not_or, ← ne_eq, Option.ne_none_iff_exists'] at none
    obtain ⟨⟨_, hi⟩, ⟨_, hz⟩, ⟨_, hp⟩, ⟨_, hc⟩, ⟨_, hst⟩, ⟨_, ha⟩, ⟨_, hh⟩, ⟨_, hl⟩⟩ := none
    exact h _ _ _ _ _ _ _ _ hi hz hp hc hst ha hh hl

/-- The form that spells a selector, in the codes of 10.6. -/
def Selector.form (sel : Selector) : SelectorForm where
  input := sel.input.map fun i => i.1 + 1
  zone := sel.zone.map fun z => z.1 + 1
  precinct := sel.precinct.map fun p => p.1 + 1
  cls := sel.cls.map classCode
  state := sel.state.map slotStateCode
  armed := sel.armed.map flagCode
  cause := sel.cause.map causeCode
  limited := sel.limited.map flagCode

theorem selector?_eq_some {form : SelectorForm} {sel : Selector} : selector? form = some sel ↔ form = sel.form := by
  have number {n : Nat} {x : Option Nat} {y : Option (Fin n)} :
      optional? (number? n) x = some y ↔ x = y.map fun i => i.1 + 1 :=
    optional?_eq_some fun _ _ => number?_eq_some
  rw [selector?_eq_some_iff, number, number, number, optional?_eq_some class?_eq_some,
    optional?_eq_some slotState?_eq_some, optional?_eq_some flag?_eq_some, optional?_eq_some cause?_eq_some,
    optional?_eq_some flag?_eq_some]
  cases form
  simp only [Selector.form, SelectorForm.mk.injEq]

theorem selector?_eq_none {form : SelectorForm} :
    selector? form = none ↔
      (∃ n, form.input = some n ∧ outside 32 n) ∨ (∃ n, form.zone = some n ∧ outside 24 n)
      ∨ (∃ n, form.precinct = some n ∧ outside 4 n) ∨ (∃ n, form.cls = some n ∧ 3 < n)
      ∨ (∃ n, form.state = some n ∧ 5 < n) ∨ (∃ n, form.armed = some n ∧ 1 < n)
      ∨ (∃ n, form.cause = some n ∧ outside 3 n) ∨ ∃ n, form.limited = some n ∧ 1 < n := by
  have number {n : Nat} {x : Option Nat} :
      optional? (number? n) x = none ↔ ∃ k, x = some k ∧ outside n k :=
    optional?_eq_none fun _ => number?_eq_none
  rw [selector?_eq_none_iff, number, number, number, optional?_eq_none class?_eq_none,
    optional?_eq_none slotState?_eq_none, optional?_eq_none flag?_eq_none, optional?_eq_none cause?_eq_none,
    optional?_eq_none flag?_eq_none]

/-- An action is refused exactly where its code is out of range, or LEVEL comes without its value (R95). -/
theorem sweepAction?_eq_none (action : Nat) (level : Option Int) :
    sweepAction? action level = none ↔ 4 < action ∨ (action = 4 ∧ level = none) := by
  constructor
  · intro h
    by_contra taken
    have low : action ≤ 4 := by omega
    interval_cases action <;> cases level <;> simp_all [sweepAction?]
  · rintro (h | ⟨rfl, rfl⟩)
    · unfold sweepAction?
      split <;> simp_all
    · rfl

section Requests

variable {s : State} {start : SlotIx} {count : Nat} {form : SelectorForm} {sel : Selector}

theorem takeFindRoutes_begins {mode : Nat} {m : FindMode} (hsel : selector? form = some sel)
    (hm : findMode? mode = some m) (hc : count ≤ 256) :
    takeFindRoutes start count mode form s = (s.startScan (.find m) sel start count, none) := by
  simp [takeFindRoutes, hsel, hm, Nat.not_lt.mpr hc]

theorem takeSweepRoutes_begins {action : Nat} {level : Option Int} {act : SweepAction}
    (hsel : selector? form = some sel) (ha : sweepAction? action level = some act) (hc : count ≤ 256) :
    takeSweepRoutes start count action form level s =
      (s.startScan
          (.sweep act (decide (action = 4 ∧ ∃ x, level = some x ∧ (x < -480 ∨ 48 < x))) 0 0 none) sel start count,
        none) := by
  have clamped : (decide (action = 4) && clampChanges clampLevel level) =
      decide (action = 4 ∧ ∃ x, level = some x ∧ (x < -480 ∨ 48 < x)) := by
    rw [Bool.eq_iff_iff, Bool.and_eq_true, decide_eq_true_iff, decide_eq_true_iff]
    exact and_congr_right fun _ => clampChanges_int (by decide) level
  simp only [takeSweepRoutes, hsel, ha, if_neg (Nat.not_lt.mpr hc), clamped]

theorem takeFindRoutes_range {mode : Nat} (h : selector? form = none ∨ 1 < mode ∨ 256 < count) :
    takeFindRoutes start count mode form s = (s, plain .range) := by
  rw [← findMode?_eq_none] at h
  unfold takeFindRoutes
  split
  · next hsel hm =>
    refine if_pos ?_
    simpa [hsel, hm] using h
  · rfl

theorem takeSweepRoutes_range {action : Nat} {level : Option Int}
    (h : selector? form = none ∨ 4 < action ∨ (action = 4 ∧ level = none) ∨ 256 < count) :
    takeSweepRoutes start count action form level s = (s, plain .range) := by
  rw [← or_assoc (a := 4 < action), ← sweepAction?_eq_none] at h
  unfold takeSweepRoutes
  split
  · next hsel ha =>
    refine if_pos ?_
    simpa [hsel, ha] using h
  · rfl

end Requests

/-- Settles O17: what each owner does with an accepted request and with a refused one, then the codes. -/
theorem scansBeginOrAreRefused : Obligations.ScansBeginOrAreRefused := by
  unfold Obligations.ScansBeginOrAreRefused
  refine ⟨fun s start count form hs =>
      ⟨fun sel hsel hc => ⟨fun mode m hm => ?_, fun action level act ha => ?_⟩,
        fun mode h => exec_answered hs rfl (takeFindRoutes_range h),
        fun action level h => exec_answered hs rfl (takeSweepRoutes_range h)⟩,
    fun form sel => selector?_eq_some, fun form => selector?_eq_none, rfl, rfl,
    fun level => ⟨rfl, rfl, rfl, rfl⟩, fun v => rfl⟩
  · exact congrArg _ (onRequest_started hs (takeFindRoutes_begins hsel hm hc) _)
  · exact congrArg _ (onRequest_started hs (takeSweepRoutes_begins hsel ha hc) _)

end Sys2Proof.Machine

namespace Sys2Proof.Machine
open Sys2Proof.Safety

/-! ## A sweep's action on a route, and on the slot at its cursor (O19) -/

/-! ### The tables of R99 and R100 -/

section SweepAction

variable (s : State) {r : Route}

theorem stageArmRefusal_armed (h : r.state ≠ .retiring) (ha : r.armed = true) : stageArmRefusal r = some .armed := by
  cases hst : r.state with
  | retiring => exact absurd hst h
  | steady | ramping | dipping | halted => simp [stageArmRefusal, hst, ha]

theorem State.cleared_of_not_halted (h : ∀ c, r.state ≠ .halted c) : s.cleared r = .ok r := by
  refine if_neg fun hh => ?_
  obtain ⟨c, hc⟩ := isHalted_iff.mp hh
  exact h c hc

theorem State.sweepRoute_arm_refused {st : Status} (ha : r.armed = false) (h : armRefusal r = some st) :
    s.sweepRoute .arm r = .error st := by
  simp [State.sweepRoute, ha, h]

theorem State.sweepRoute_level_refused {st : Status} (h : stageArmRefusal r = some st) (v : Int) :
    s.sweepRoute (.level v) r = .error st := by
  simp [State.sweepRoute, h]

theorem State.sweepRoute_arm_armed (h : r.armed = true) : s.sweepRoute .arm r = .ok r :=
  if_pos h

theorem State.sweepRoute_retire (h : r.state ≠ .retiring) :
    s.sweepRoute .retire r = .ok { r with state := .retiring, armed := false } := by
  rw [← retire_eq r h]
  exact if_neg h

theorem State.sweepRoute_halt (h : r.state ≠ .retiring) :
    s.sweepRoute .halt r = .ok (halt .controller r) :=
  if_neg h

/-- A route that sounds is STEADY, RAMPING or DIPPING. -/
theorem sounding_of_not_silent (h : r.state ≠ .retiring) (hh : ∀ c, r.state ≠ .halted c) :
    r.state = .steady ∨ r.state = .ramping ∨ ∃ d, r.state = .dipping d := by
  cases hst : r.state with
  | steady | ramping | dipping => simp
  | retiring => exact absurd hst h
  | halted c => exact absurd hst (hh c)

theorem State.sweepRoute_retiring (h : r.state = .retiring) :
    s.sweepRoute .retire r = .error .gone ∧ s.sweepRoute .halt r = .error .gone ∧ s.sweepRoute .clear r = .ok r
    ∧ (r.armed = false → s.sweepRoute .arm r = .error .gone) ∧ ∀ v, s.sweepRoute (.level v) r = .error .gone :=
  ⟨if_pos h, if_pos h, s.cleared_of_not_halted (by simp [h]),
    fun ha => s.sweepRoute_arm_refused ha (by simp [armRefusal, h]),
    s.sweepRoute_level_refused (by simp [stageArmRefusal, h])⟩

theorem State.sweepRoute_sounding (h : r.state = .steady ∨ r.state = .ramping) (ha : r.armed = false) :
    s.sweepRoute .arm r = .ok { r with armed := true }
    ∧ ∀ v, -480 ≤ v → v ≤ 48 →
      s.sweepRoute (.level v) r = .ok { r with staged := { r.live with level := v }, armed := true } := by
  refine ⟨by simp [State.sweepRoute, ha, armRefusal_eq_none.mpr h], fun v low high => ?_⟩
  have kept : clampLevel v = v := by
    simp only [clampLevel, clampInt]
    omega
  simp [State.sweepRoute, stageArmRefusal_eq_none.mpr ⟨h, ha⟩, stageArm, editBank, clampEdit, kept]

end SweepAction

/-! ### The slot at the cursor -/

section SweepSlot

variable {s : State} {act : SweepAction} {c : Bool} {a f : Nat} {first : Option (SlotIx × Status)} {sc : Scan}
  {r : Route}

theorem State.sweepSlot_done {r' : Route} (hj : sc.job = .sweep act c a f first) (hr : s.route? sc.cursor = some r)
    (hm : s.slotMatches sc.selector (some r) = true) (h : s.sweepRoute act r = .ok r') :
    s.sweepSlot act sc =
      (s.setSlot sc.cursor (some r'), { sc.advance with job := .sweep act c (a + 1) f first }) := by
  simp [State.sweepSlot, hr, hm, h, hj, ScanJob.tally, Scan.advance]

theorem State.sweepSlot_refused {st : Status} (hj : sc.job = .sweep act c a f first)
    (hr : s.route? sc.cursor = some r) (hm : s.slotMatches sc.selector (some r) = true)
    (h : s.sweepRoute act r = .error st) :
    s.sweepSlot act sc =
      (s, { sc.advance with job := .sweep act c a (f + 1) (first.or (some (sc.cursor, st))) }) := by
  simp [State.sweepSlot, hr, hm, h, hj, ScanJob.tally, Scan.advance]

/-- A slot that is FREE or does not match is passed by. -/
theorem State.sweepSlot_passed (h : ∀ r, s.route? sc.cursor = some r → s.slotMatches sc.selector (some r) = false) :
    s.sweepSlot act sc = (s, sc.advance) := by
  unfold State.sweepSlot
  split
  · next r hr => simp [h r hr]
  · rfl

end SweepSlot

/-- Settles O19: the rows of the tables by the route's state, then the slot at the cursor. -/
theorem sweepActionsByState : Obligations.SweepActionsByState := by
  unfold Obligations.SweepActionsByState
  refine ⟨fun s r => ⟨s.sweepRoute_retiring, s.sweepRoute_arm_armed, fun h =>
    ⟨s.sweepRoute_retire h, fun ha => s.sweepRoute_level_refused (stageArmRefusal_armed h ha), ?_, fun hh => ⟨?_, ?_⟩,
      ?_, s.sweepRoute_sounding⟩⟩, ?_⟩
  · rintro ⟨c, hc⟩
    refine ⟨?_, fun hf => ?_, fun hf hw => ?_, fun hf hw => ?_, fun ha => ⟨?_, ?_⟩⟩
    · rw [s.sweepRoute_halt h, halt_of_halted c _ r hc]
    · simp [State.sweepRoute, State.cleared, hc, isHalted, hf]
    · simp [State.sweepRoute, State.cleared, hc, isHalted, hf, hw]
    · simp [State.sweepRoute, State.cleared, hc, isHalted, hf, hw, release]
    · exact s.sweepRoute_arm_refused ha (by simp [armRefusal, hc])
    · exact s.sweepRoute_level_refused (by simp [stageArmRefusal, hc, ha])
  · rw [s.sweepRoute_halt h, halt_eq _ r (sounding_of_not_silent h hh)]
  · exact s.cleared_of_not_halted hh
  · rintro ⟨d, hd⟩ ha
    exact ⟨s.sweepRoute_arm_refused ha (by simp [armRefusal, hd]),
      s.sweepRoute_level_refused (by simp [stageArmRefusal, hd, ha])⟩
  · rintro s act c a f first sc _ hj rfl
    refine ⟨fun r hr hm => ⟨fun r' h => State.sweepSlot_done hj hr hm h, fun st h => ?_⟩, fun r hr hm => ?_,
      fun hr => ?_⟩
    · rw [State.sweepSlot_refused hj hr hm h]
      cases first <;> rfl
    · exact State.sweepSlot_passed (by simp [hr, hm])
    · exact State.sweepSlot_passed (by simp [hr])

/-! ## A scan step (O18) -/

/-! ### What a selector matches (R92) -/

theorem fieldMatches_iff {α : Type} [DecidableEq α] {field : Option α} {value : α} :
    fieldMatches field value = true ↔ ∀ x, field = some x → x = value := by
  cases field <;> simp [fieldMatches]

theorem Route.cause_eq_some {r : Route} {c : HaltCause} : r.cause = some c ↔ r.state = .halted c := by
  cases hst : r.state <;> simp [Route.cause, hst]

theorem State.slotMatches_route (s : State) (sel : Selector) (r : Route) :
    s.slotMatches sel (some r) = true ↔
      (∀ x, sel.input = some x → x = r.input) ∧ (∀ x, sel.zone = some x → x = r.zone)
      ∧ (∀ x, sel.precinct = some x → x = (s.inputSettings r.input).precinct)
      ∧ (∀ x, sel.cls = some x → x = (s.inputSettings r.input).cls)
      ∧ (∀ x, sel.state = some x → x = slotState r.state) ∧ (∀ x, sel.armed = some x → x = r.armed)
      ∧ (∀ x, sel.cause = some x → r.state = .halted x) ∧ ∀ x, sel.limited = some x → x = r.limited := by
  have cause : (sel.cause.isNone || decide (sel.cause = r.cause)) = true ↔
      ∀ x, sel.cause = some x → r.state = .halted x := by
    cases sel.cause with
    | none => simp
    | some c => simp [← Route.cause_eq_some, eq_comm]
  simp only [State.slotMatches, State.routeMatches, Bool.and_eq_true, cause, fieldMatches_iff, and_assoc]

theorem State.slotMatches_free (s : State) (sel : Selector) :
    s.slotMatches sel none = true ↔
      sel.input = none ∧ sel.zone = none ∧ sel.precinct = none ∧ sel.cls = none
      ∧ (sel.state = none ∨ sel.state = some .free) ∧ sel.armed = none ∧ sel.cause = none ∧ sel.limited = none := by
  have state : fieldMatches sel.state .free = true ↔ sel.state = none ∨ sel.state = some .free := by
    cases sel.state <;> simp [fieldMatches]
  simp only [State.slotMatches, freeMatches, Bool.and_eq_true, Option.isNone_iff_eq_none, state]
  tauto

/-! ### A scan so many slots on -/

/-- The scan with its cursor `d` slots on. -/
def Scan.forward (sc : Scan) (d : Nat) : Scan :=
  { sc with cursor := sc.cursor + Fin.ofNat 256 d, remaining := sc.remaining - d }

theorem Scan.forward_zero (sc : Scan) : sc.forward 0 = sc := by
  simp [Scan.forward]

theorem Scan.eq_forward_zero (sc : Scan) {job : ScanJob} (hj : sc.job = job) {d : Nat} (h : d = 0) :
    sc = { sc.forward d with job := job } := by
  rw [h, Scan.forward_zero, ← hj]

theorem Scan.cursor_advance (sc : Scan) (d : Nat) :
    sc.advance.cursor + Fin.ofNat 256 d = sc.cursor + Fin.ofNat 256 (d + 1) := by
  refine Fin.ext ?_
  simp only [Scan.advance, nextSlot, Fin.val_add, Fin.val_ofNat]
  omega

theorem Scan.forward_advance (sc : Scan) (d : Nat) : sc.advance.forward d = sc.forward (d + 1) := by
  simp only [Scan.forward, Scan.cursor_advance]
  simp only [Scan.advance, Nat.sub_sub, Nat.add_comm 1]

theorem Scan.forward_cursor (sc : Scan) (d : Nat) : (sc.forward d).cursor.1 = (sc.cursor.1 + d) % 256 := by
  simp [Scan.forward, Fin.val_add]

theorem Scan.min_succ_remaining (sc : Scan) (left : sc.remaining ≠ 0) (n : Nat) :
    min (n + 1) sc.remaining = min n sc.advance.remaining + 1 := by
  simp only [Scan.advance]
  omega

theorem Scan.remaining_le_succ (sc : Scan) (n : Nat) : sc.remaining ≤ n + 1 ↔ sc.advance.remaining ≤ n := by
  simp only [Scan.advance]
  omega

theorem examine_none_left {sc : Scan} (h : sc.remaining = 0) (n : Nat) (s : State) :
    examine n s sc = (s, sc, sc.exhausted) := by
  cases n <;> simp [examine, h]

/-! ### A FIND (R98) -/

/-- Whether a FIND of mode `m` stops at the slot `d` slots on. -/
def State.stopsAt (s : State) (m : FindMode) (sc : Scan) (d : Nat) : Bool :=
  stops m (s.slotMatches sc.selector (s.route? (sc.cursor + Fin.ofNat 256 d)))

theorem State.stopsAt_advance (s : State) (m : FindMode) (sc : Scan) (d : Nat) :
    s.stopsAt m sc.advance d = s.stopsAt m sc (d + 1) := by
  rw [State.stopsAt, Scan.cursor_advance]
  rfl

theorem examine_find_stop {s : State} {sc : Scan} {m : FindMode} (hj : sc.job = .find m) (left : sc.remaining ≠ 0)
    (h : s.stopsAt m sc 0 = true) (n : Nat) :
    examine (n + 1) s sc =
      (s, sc.advance, .ended .ok (uIndex sc.cursor ++ u16 sc.advance.remaining)) := by
  have here : stops m (s.slotMatches sc.selector (s.route? sc.cursor)) = true := by simpa [State.stopsAt] using h
  simp [examine, left, hj, here]

theorem examine_find_on {s : State} {sc : Scan} {m : FindMode} (hj : sc.job = .find m) (left : sc.remaining ≠ 0)
    (h : s.stopsAt m sc 0 = false) (n : Nat) : examine (n + 1) s sc = examine n s sc.advance := by
  have here : stops m (s.slotMatches sc.selector (s.route? sc.cursor)) = false := by simpa [State.stopsAt] using h
  simp [examine, left, hj, here]

/-- A FIND stops at the first of its next `n` slots that meets its mode, or passes them all. -/
theorem examine_find {m : FindMode} (n : Nat) {s : State} {sc : Scan} (hj : sc.job = .find m) :
    (∃ d, d < min n sc.remaining ∧ s.stopsAt m sc d = true ∧ (∀ d' < d, s.stopsAt m sc d' = false)
      ∧ examine n s sc =
        (s, sc.forward (d + 1),
          .ended .ok (uIndex (sc.forward d).cursor ++ u16 (sc.forward (d + 1)).remaining)))
    ∨ ((∀ d < min n sc.remaining, s.stopsAt m sc d = false)
      ∧ examine n s sc =
        (s, sc.forward (min n sc.remaining),
          if sc.remaining ≤ n then (sc.forward (min n sc.remaining)).exhausted else .going)) := by
  induction n generalizing sc with
  | zero => exact .inr ⟨by simp, by simp [examine, Scan.forward_zero]⟩
  | succ n ih =>
    by_cases left : sc.remaining = 0
    · exact .inr ⟨by simp [left], by simp [examine_none_left left, left, Scan.forward_zero]⟩
    · cases here : s.stopsAt m sc 0 with
      | true =>
        refine .inl ⟨0, by omega, here, by simp, ?_⟩
        rw [examine_find_stop hj left here, ← Scan.forward_advance, Scan.forward_zero, Scan.forward_zero]
      | false =>
        simp only [examine_find_on hj left here, sc.min_succ_remaining left, sc.remaining_le_succ]
        have passed {d : Nat} (h : ∀ d' < d, s.stopsAt m sc.advance d' = false) :
            ∀ d' < d + 1, s.stopsAt m sc d' = false
          | 0, _ => here
          | d' + 1, hd' => s.stopsAt_advance m sc d' ▸ h d' (Nat.lt_of_succ_lt_succ hd')
        obtain ⟨d, hd, stop, before, e⟩ | ⟨before, e⟩ := ih (sc := sc.advance) hj
        · exact .inl ⟨d + 1, Nat.succ_lt_succ hd, s.stopsAt_advance m sc d ▸ stop, passed before,
            by simpa only [Scan.forward_advance] using e⟩
        · exact .inr ⟨passed before, by simpa only [Scan.forward_advance] using e⟩

/-! ### A SWEEP (R96, R99) -/

/-- The state with another route table. -/
def State.withTable (s : State) (table : Table (Option Route) 256) : State :=
  { s with engine := { s.engine with table := table } }

/-- A sweep changes nothing but the slot at its cursor and its own counts. -/
theorem State.sweepSlot_eq {act : SweepAction} {c : Bool} {a f : Nat} {first : Option (SlotIx × Status)} {sc : Scan}
    (s : State) (hj : sc.job = .sweep act c a f first) :
    ∃ table a' f' first',
      s.sweepSlot act sc = (s.withTable table, { sc.advance with job := .sweep act c a' f' first' })
      ∧ ∀ k, k ≠ sc.cursor → table.get k = s.route? k := by
  have passed (h : ∀ r, s.route? sc.cursor = some r → s.slotMatches sc.selector (some r) = false) :
      s.sweepSlot act sc = (s.withTable s.engine.table, { sc.advance with job := .sweep act c a f first }) := by
    rw [State.sweepSlot_passed h, ← hj]
    rfl
  cases hr : s.route? sc.cursor with
  | none => exact ⟨_, _, _, _, passed (by simp [hr]), fun _ _ => rfl⟩
  | some r =>
    cases hm : s.slotMatches sc.selector (some r) with
    | false => exact ⟨_, _, _, _, passed (by simp [hr, hm]), fun _ _ => rfl⟩
    | true =>
      cases h : s.sweepRoute act r with
      | ok r' =>
        exact ⟨_, _, _, _, State.sweepSlot_done hj hr hm h, fun k hk => Table.get_set_ne _ _ (Ne.symm hk)⟩
      | error st => exact ⟨s.engine.table, _, _, _, State.sweepSlot_refused hj hr hm h, fun _ _ => rfl⟩

theorem examine_sweep_succ {act : SweepAction} {c : Bool} {a f : Nat} {first : Option (SlotIx × Status)} {sc : Scan}
    (hj : sc.job = .sweep act c a f first) (left : sc.remaining ≠ 0) (n : Nat) (s : State) :
    examine (n + 1) s sc = examine n (s.sweepSlot act sc).1 (s.sweepSlot act sc).2 := by
  simp [examine, left, hj]

/-- A SWEEP examines as many of its next `n` slots as remain, and changes no other slot. -/
theorem examine_sweep {act : SweepAction} {c : Bool} (n : Nat) {a f : Nat} {first : Option (SlotIx × Status)}
    {s : State} {sc : Scan} (hj : sc.job = .sweep act c a f first) :
    ∃ table a' f' first' sc', sc' = { sc.forward (min n sc.remaining) with job := .sweep act c a' f' first' }
      ∧ examine n s sc = (s.withTable table, sc', if sc.remaining ≤ n then sc'.exhausted else .going)
      ∧ ∀ k, (∀ d < min n sc.remaining, k ≠ sc.cursor + Fin.ofNat 256 d) → table.get k = s.route? k := by
  induction n generalizing s sc a f first with
  | zero =>
    exact ⟨s.engine.table, _, _, _, sc, sc.eq_forward_zero hj (Nat.zero_min _), by simp [examine, State.withTable],
      fun _ _ => rfl⟩
  | succ n ih =>
    by_cases left : sc.remaining = 0
    · exact ⟨s.engine.table, _, _, _, sc, sc.eq_forward_zero hj (by simp [left]),
        by simp [examine_none_left left, left, State.withTable], fun _ _ => rfl⟩
    · obtain ⟨table, a₁, f₁, first₁, examined, kept⟩ := s.sweepSlot_eq hj
      obtain ⟨table', a', f', first', sc', e, rest, keptRest⟩ :=
        ih (s := s.withTable table) (sc := { sc.advance with job := .sweep act c a₁ f₁ first₁ }) rfl
      simp only [examine_sweep_succ hj left, examined, sc.min_succ_remaining left, sc.remaining_le_succ]
      refine ⟨table', a', f', first', sc', ?_, rest, fun k hk => ?_⟩
      · rw [e, ← Scan.forward_advance]
        rfl
      · rw [keptRest k fun d hd => ?_]
        · exact kept k (by simpa using hk 0 (Nat.succ_pos _))
        · exact sc.cursor_advance d ▸ hk (d + 1) (Nat.succ_lt_succ hd)

/-! ### The end of a scan step (R93, R102) -/

theorem scanStep_going {s t : State} {sc sc' : Scan} (h : s.engine.scan = some sc)
    (he : examine 16 s sc = (t, sc', .going)) :
    scanStep s = { t with engine := { t.engine with scan := some sc' } } := by
  simp [scanStep, h, he, State.setEngine]

theorem scanStep_ended {s t : State} {sc sc' : Scan} {st : Status} {body : List Byte} (h : s.engine.scan = some sc)
    (he : examine 16 s sc = (t, sc', .ended st body)) :
    scanStep s =
      answered { t with engine := { t.engine with scan := none }, port := { t.port with inProgress := none } }
        sc.job.kind st body := by
  simp only [scanStep, h, he]
  rfl

/-! ### The whole step -/

/-- What a step of a SWEEP does to the scan and to the slots (R96, R99, R101). -/
theorem examine_sweep_sixteen {act : SweepAction} {c : Bool} {a f : Nat} {first : Option (SlotIx × Status)}
    (s : State) {sc : Scan} (hj : sc.job = .sweep act c a f first) :
    ∃ t sc' e, examine 16 s sc = (t, sc', e)
      ∧ sc'.remaining = sc.remaining - min 16 sc.remaining
      ∧ sc'.cursor.1 = (sc.cursor.1 + min 16 sc.remaining) % 256
      ∧ (e = .going ↔ 16 < sc.remaining)
      ∧ (∀ k : SlotIx, (∀ d, d < min 16 sc.remaining → k.1 ≠ (sc.cursor.1 + d) % 256) → t.route? k = s.route? k)
      ∧ t = { s with engine := { s.engine with table := t.engine.table } }
      ∧ ∃ a' f' first', sc'.job = .sweep act c a' f' first'
        ∧ (sc.remaining ≤ 16 → e = .ended (okStatus c) (sweepBody a' f' first')) := by
  obtain ⟨table, a', f', first', sc', rfl, examined, kept⟩ := examine_sweep 16 (s := s) hj
  refine ⟨_, _, _, examined, rfl, sc.forward_cursor _, ?_, fun k hk => kept k fun d hd e => hk d hd ?_, rfl,
    a', f', first', rfl, fun h => if_pos h⟩
  · split
    · next h => simp [Scan.exhausted, h]
    · next h => simpa using h
  · rw [e, ← sc.forward_cursor]
    rfl

/-- What a step of a FIND answers, or how it goes on (R98). -/
theorem examine_find_sixteen {m : FindMode} (s : State) {sc : Scan} (hj : sc.job = .find m) :
    ∃ sc' e, examine 16 s sc = (s, sc', e)
      ∧ (∀ st body, e = .ended st body → st = .ok →
        ∃ d, d < min 16 sc.remaining
          ∧ body = [BitVec.ofNat 8 (sc.cursor.1 + d), BitVec.ofNat 8 ((sc.remaining - (d + 1)) / 256),
              BitVec.ofNat 8 (sc.remaining - (d + 1))]
          ∧ s.stopsAt m sc d = true ∧ ∀ d', d' < d → s.stopsAt m sc d' = false)
      ∧ (∀ st body, e = .ended st body → st ≠ .ok →
        st = .exhausted ∧ sc.remaining ≤ 16 ∧ body = [BitVec.ofNat 8 (sc.cursor.1 + sc.remaining), 0, 0]
          ∧ ∀ d, d < sc.remaining → s.stopsAt m sc d = false)
      ∧ (e = .going →
        16 < sc.remaining
        ∧ sc' = { sc with cursor := sc.cursor + 16, remaining := sc.remaining - 16 }
        ∧ ∀ d, d < 16 → s.stopsAt m sc d = false) := by
  have slot (d : Nat) : uIndex (sc.forward d).cursor = [BitVec.ofNat 8 (sc.cursor.1 + d)] := by
    rw [uIndex, Scan.forward_cursor, u8]
    congr 1
    exact BitVec.eq_of_toNat_eq (by simp)
  obtain ⟨d, hd, stop, before, examined⟩ | ⟨before, examined⟩ := examine_find 16 (s := s) hj
  · refine ⟨_, _, examined, ?_, ?_, ?_⟩
    · rintro st body e -
      obtain ⟨rfl, rfl⟩ := ScanEnd.ended.inj e
      exact ⟨d, hd, by rw [slot]; rfl, stop, before⟩
    · intro st body e hst
      exact absurd (ScanEnd.ended.inj e).1.symm hst
    · simp
  · by_cases h : sc.remaining ≤ 16
    · rw [if_pos h, min_eq_right h] at examined
      rw [min_eq_right h] at before
      have ended : (sc.forward sc.remaining).exhausted =
          .ended .exhausted [BitVec.ofNat 8 (sc.cursor.1 + sc.remaining), 0, 0] := by
        simp only [Scan.exhausted, slot, show (sc.forward sc.remaining).job = _ from hj]
        rfl
      rw [ended] at examined
      refine ⟨_, _, examined, ?_, ?_, ?_⟩
      · rintro st body e rfl
        simp at e
      · intro st body e _
        obtain ⟨rfl, rfl⟩ := ScanEnd.ended.inj e
        exact ⟨rfl, h, rfl, before⟩
      · simp
    · rw [if_neg h, min_eq_left (by omega)] at examined
      rw [min_eq_left (by omega)] at before
      exact ⟨_, _, examined, by simp, by simp, fun _ => ⟨by omega, rfl, before⟩⟩

/-- Settles O18: what a selector matches, the two kinds of scan by induction on the slots examined, and the step's
end. -/
theorem scanStepExaminesSixteen : Obligations.ScanStepExaminesSixteen := by
  unfold Obligations.ScanStepExaminesSixteen
  refine ⟨⟨State.slotMatches_route, State.slotMatches_free⟩,
    ⟨fun s sc act c a f first hj => ⟨?_, fun n => ⟨fun h => ?_, fun h => examine_sweep_succ hj h n s⟩⟩,
      fun s sc m hj => examine_find_sixteen s hj⟩,
    fun matched => ⟨rfl, rfl⟩,
    fun s => ⟨scanStep_of_none, fun sc t sc' e hsc he => ⟨?_, ?_⟩⟩⟩
  · obtain ⟨t, sc', e, examined, left, cursor, going, kept, rest, a', f', first', job, ended⟩ :=
      examine_sweep_sixteen s hj
    refine ⟨t, sc', e, examined, left, cursor, going, kept, rest, a', f', first', job, fun h => (ended h).trans ?_⟩
    cases first' <;> rfl
  · simp [examine_none_left h]
  · rintro rfl
    exact scanStep_going hsc he
  · rintro st body rfl
    rw [scanStep_ended hsc he]
    cases sc.job <;> rfl

end Sys2Proof.Machine

namespace Sys2Proof.Machine
open Sys2Proof.Safety

/-! ## RST_L and loss of power (O50) -/

theorem startRings_factory (blocks : Option Nat) (z : ZoneIx) :
    (startRings factoryDefaults blocks).zones.get z = Ring.quiet := by
  have none_stored : startNotches (Table.fill 8 none) = [] := by decide
  simp [startRings, factoryDefaults, none_stored, Ring.quiet]

/-- Settles O50: both states are written out by `hold` and `powerDown`; their tables are read place by place. -/
theorem resetAndPowerStopThePart : Obligations.ResetAndPowerStopThePart := by
  unfold Obligations.ResetAndPowerStopThePart
  intro s
  refine ⟨⟨hold s, rfl, rfl, fun z => ?_, rfl, rfl, rfl, rfl, rfl, rfl, rfl, rfl, rfl, rfl, rfl, rfl,
      fun z => Table.get_map _ _ z, fun z => Table.get_map _ _ z, fun k => Table.get_map _ _ k,
      fun z => Table.get_map _ _ z, fun z => Table.get_fill _ z, rfl⟩,
    powerDown s, rfl, rfl, rfl, fun k => Table.get_fill _ k, fun z => Table.get_fill _ z, rfl, rfl, rfl,
    fun i => Table.get_fill _ i, fun p => Table.get_fill _ p, fun z => Table.get_fill _ z,
    fun z => Table.get_map _ _ z, fun k => Table.get_map _ _ k, startRings_factory none,
    fun z => Table.get_fill _ z, rfl, fun i => ⟨Table.get_fill _ i, Table.get_fill _ i⟩, rfl,
    fun k => ⟨Table.get_fill _ k, Table.get_fill _ k⟩,
    fun z => ⟨Table.get_fill _ z, Table.get_fill _ z, Table.get_fill _ z, fun k => ?_⟩, rfl, rfl, rfl⟩
  · simp [State.zoneLive, hold, holdZone]
  · simp [powerDown, SignalEngine.atPowerOn]

end Sys2Proof.Machine

namespace Sys2Proof.Machine
open Sys2Proof.Safety

/-! ## The gate unit's operations (chapter 6) -/

/-! ### Closing and joining -/

/-- Members of one list closed, one after another. -/
def GateUnit.closeAll (g : GateUnit) (p : PrecinctIx) (ms : List InputIx) : GateUnit :=
  ms.foldl (fun g i => g.closeMember p i) g

theorem GateLive.shut_shut (l : GateLive) : l.shut.shut = l.shut :=
  rfl

theorem GateUnit.closeAll_lists (g : GateUnit) (p q : PrecinctIx) (ms : List InputIx) :
    (g.closeAll p ms).lists.get q =
      if q = p then (g.lists.get q).filter (fun j => decide (j ∉ ms)) else g.lists.get q := by
  induction ms generalizing g with
  | nil => simp [GateUnit.closeAll]
  | cons m ms ih =>
    rw [GateUnit.closeAll, List.foldl_cons, ← GateUnit.closeAll, ih, GateUnit.closeMember_lists]
    split
    · rw [List.filter_filter]
      exact List.filter_congr fun j _ => by simp [Bool.and_comm]
    · rfl

theorem GateUnit.closeAll_inputs (g : GateUnit) (p : PrecinctIx) (ms : List InputIx) (j : InputIx) :
    (g.closeAll p ms).inputs.get j = if j ∈ ms then (g.inputs.get j).shut else g.inputs.get j := by
  induction ms generalizing g with
  | nil => rfl
  | cons m ms ih =>
    rw [GateUnit.closeAll, List.foldl_cons, ← GateUnit.closeAll, ih]
    by_cases e : j = m
    · subst e
      simp [GateLive.shut_shut]
    · simp [e, g.closeMember_inputs_ne p e]

theorem GateUnit.joinList_lists (g : GateUnit) (p q : PrecinctIx) (i : InputIx) :
    (g.joinList p i).lists.get q = if q = p then g.lists.get q ++ [i] else g.lists.get q := by
  split
  · next e => exact e ▸ Table.get_modify_self _ _ _
  · next e => exact Table.get_modify_ne _ _ (Ne.symm e)

@[simp] theorem GateUnit.joinList_inputs_self (g : GateUnit) (p : PrecinctIx) (i : InputIx) :
    (g.joinList p i).inputs.get i = { g.inputs.get i with gate := .opened, counter := 0 } :=
  Table.get_modify_self _ _ _

theorem GateUnit.joinList_inputs_ne (g : GateUnit) (p : PrecinctIx) {i j : InputIx} (h : j ≠ i) :
    (g.joinList p i).inputs.get j = g.inputs.get j :=
  Table.get_modify_ne _ _ (Ne.symm h)

/-! ### The victim (R114, R122) -/

/-- A member of the largest class number, ahead of all that share it: the victim of a list. -/
structure StandsOut (w : WorkingCopy) (before : List InputIx) (v : InputIx) (after : List InputIx) : Prop where
  before : ∀ b ∈ before, classOf w b < classOf w v
  after : ∀ b ∈ after, classOf w b ≤ classOf w v

/-- How the victim so far gives way to the next member (R114, R122). -/
def nextVictim (w : WorkingCopy) (least : Nat) (best : Option InputIx) (i : InputIx) : Option InputIx :=
  if classOf w i < least then best
  else
    match best with
    | none => some i
    | some b => if classOf w b < classOf w i then some i else some b

theorem victim?_eq_foldl (w : WorkingCopy) (least : Nat) (l : List InputIx) :
    victim? w least l = l.foldl (nextVictim w least) none :=
  rfl

theorem victim?_concat (w : WorkingCopy) (least : Nat) (l : List InputIx) (x : InputIx) :
    victim? w least (l ++ [x]) = nextVictim w least (victim? w least l) x := by
  rw [victim?_eq_foldl, List.foldl_append, ← victim?_eq_foldl, List.foldl_cons, List.foldl_nil]

/-- There is no victim exactly where no member has a class number to give way with; else it is the member that stands
out. -/
theorem victim?_spec (w : WorkingCopy) (least : Nat) (l : List InputIx) :
    (victim? w least l = none → ∀ b ∈ l, classOf w b < least)
    ∧ ∀ v, victim? w least l = some v →
      least ≤ classOf w v ∧ ∃ before after, l = before ++ v :: after ∧ StandsOut w before v after := by
  induction l using List.reverseRecOn with
  | nil => simp [victim?]
  | append_singleton l x ih =>
    obtain ⟨none_, some_⟩ := ih
    rw [victim?_concat]
    unfold nextVictim
    split
    · next low =>
      refine ⟨fun h b hb => ?_, fun v h => ?_⟩
      · rcases List.mem_append.mp hb with hb | hb
        · exact none_ h b hb
        · rwa [List.mem_singleton.mp hb]
      · obtain ⟨hv, before, after, rfl, out⟩ := some_ v h
        refine ⟨hv, before, after ++ [x], by simp, out.before, fun b hb => ?_⟩
        rcases List.mem_append.mp hb with hb | hb
        · exact out.after b hb
        · rw [List.mem_singleton.mp hb]
          omega
    · next high =>
      split
      · next h =>
        refine ⟨by simp, fun v e => ?_⟩
        obtain rfl := Option.some.inj e
        exact ⟨by omega, l, [], rfl, fun b hb => lt_of_lt_of_le (none_ h b hb) (by omega), by simp⟩
      · next u h =>
        obtain ⟨hu, before, after, rfl, out⟩ := some_ u h
        split
        · next more =>
          refine ⟨by simp, fun v e => ?_⟩
          obtain rfl := Option.some.inj e
          refine ⟨by omega, before ++ u :: after, [], rfl, fun b hb => ?_, by simp⟩
          rcases List.mem_append.mp hb with hb | hb
          · exact (out.before b hb).trans more
          · rcases List.mem_cons.mp hb with rfl | hb
            · exact more
            · exact lt_of_le_of_lt (out.after b hb) more
        · next less =>
          refine ⟨by simp, fun v e => ?_⟩
          obtain rfl := Option.some.inj e
          refine ⟨hu, before, after ++ [x], by simp, out.before, fun b hb => ?_⟩
          rcases List.mem_append.mp hb with hb | hb
          · exact out.after b hb
          · rw [List.mem_singleton.mp hb]
            omega

theorem victim?_mem {w : WorkingCopy} {least : Nat} {l : List InputIx} {v : InputIx} (h : victim? w least l = some v) :
    v ∈ l := by
  obtain ⟨-, before, after, rfl, -⟩ := (victim?_spec w least l).2 v h
  simp

/-- A list without a class number to give way with has no victim. -/
theorem victim?_eq_none {w : WorkingCopy} {least : Nat} {l : List InputIx} (h : ∀ b ∈ l, classOf w b < least) :
    victim? w least l = none := by
  cases hv : victim? w least l with
  | none => rfl
  | some v =>
    have high := ((victim?_spec w least l).2 v hv).1
    have low := h v (victim?_mem hv)
    omega

/-- The member that stands out is the victim. -/
theorem victim?_eq_some {w : WorkingCopy} {least : Nat} {before after : List InputIx} {v : InputIx}
    (high : least ≤ classOf w v) (out : StandsOut w before v after) :
    victim? w least (before ++ v :: after) = some v := by
  induction after using List.reverseRecOn with
  | nil =>
    rw [victim?_concat]
    unfold nextVictim
    rw [if_neg (by omega)]
    split
    · rfl
    · next b hb => rw [if_pos (out.before b (victim?_mem hb))]
  | append_singleton after x ih =>
    have kept := ih ⟨out.before, fun b hb => out.after b (List.mem_append_left _ hb)⟩
    have last : classOf w x ≤ classOf w v := out.after x (by simp)
    rw [← List.cons_append, ← List.append_assoc, victim?_concat, kept]
    unfold nextVictim
    split
    · rfl
    · exact if_neg (by omega)

/-! ### One candidate (R114) -/

section Candidate

variable {w : WorkingCopy} {g : GateUnit} {i : InputIx} {p : PrecinctIx}

theorem tryCandidate_room (hp : p = (w.inputs.get i).precinct)
    (room : (g.lists.get p).length < (w.precincts.get p).maxnom) : tryCandidate w g i = g.joinList p i := by
  subst hp
  simp [tryCandidate, room]

theorem tryCandidate_displaces (hp : p = (w.inputs.get i).precinct)
    (full : (w.precincts.get p).maxnom ≤ (g.lists.get p).length) {v : InputIx}
    (hv : victim? w (classOf w i + 1) (g.lists.get p) = some v) :
    tryCandidate w g i = (g.closeMember p v).joinList p i := by
  subst hp
  simp [tryCandidate, Nat.not_lt.mpr full, hv]

theorem tryCandidate_refused (hp : p = (w.inputs.get i).precinct)
    (full : (w.precincts.get p).maxnom ≤ (g.lists.get p).length)
    (hv : victim? w (classOf w i + 1) (g.lists.get p) = none) : tryCandidate w g i = g := by
  subst hp
  simp [tryCandidate, Nat.not_lt.mpr full, hv]

end Candidate

/-- What a candidate can do: join with room, displace a victim, or nothing (R114). -/
theorem tryCandidate_cases (w : WorkingCopy) (g : GateUnit) (i : InputIx) {p : PrecinctIx}
    (hp : p = (w.inputs.get i).precinct) :
    (g.lists.get p).length < (w.precincts.get p).maxnom ∧ tryCandidate w g i = g.joinList p i
    ∨ (∃ v ∈ g.lists.get p, tryCandidate w g i = (g.closeMember p v).joinList p i)
    ∨ tryCandidate w g i = g := by
  by_cases room : (g.lists.get p).length < (w.precincts.get p).maxnom
  · exact .inl ⟨room, tryCandidate_room hp room⟩
  · cases hv : victim? w (classOf w i + 1) (g.lists.get p) with
    | some v => exact .inr (.inl ⟨v, victim?_mem hv, tryCandidate_displaces hp (Nat.not_lt.mp room) hv⟩)
    | none => exact .inr (.inr (tryCandidate_refused hp (Nat.not_lt.mp room) hv))

/-! ### The LAST-ON release (R111) -/

theorem releaseLastOn_eq (w : WorkingCopy) (g : GateUnit) (p : PrecinctIx) :
    releaseLastOn w g p =
      if (w.precincts.get p).lastOn = true ∧ 1 < (g.lists.get p).length then
        g.closeAll p ((g.lists.get p).filter g.isKept)
      else g :=
  rfl

theorem GateUnit.isKept_iff (g : GateUnit) (i : InputIx) :
    g.isKept i = true ↔ (g.inputs.get i).gate = .hold ∧ (g.inputs.get i).counter = 0 := by
  simp [GateUnit.isKept]

/-- Settles O23: the admission by its room, its victim or its lack of one; the release as members closed. -/
theorem candidatesAdmittedByClass : Obligations.CandidatesAdmittedByClass := by
  unfold Obligations.CandidatesAdmittedByClass
  refine ⟨fun w g i p hp => ⟨fun room => ?_, fun full low => ?_, ?_, fun q hq => ?_⟩,
    fun w g p => ⟨fun h => ?_, ?_, fun _ => rfl⟩⟩
  · rw [tryCandidate_room hp room, GateUnit.joinList_lists, if_pos rfl]
    exact ⟨rfl, g.joinList_inputs_self p i⟩
  · exact tryCandidate_refused hp full (victim?_eq_none fun b hb => Nat.lt_succ_of_le (low b hb))
  · intro full before v after split high fresh hb ha above below
    have taken := tryCandidate_displaces hp full (v := v) (by rw [split]; exact victim?_eq_some high ⟨above, below⟩)
    have apart : i ≠ v := fun e => fresh (by rw [split, e]; simp)
    rw [taken]
    refine ⟨?_, ?_, ?_⟩
    · have left : before.filter (fun j => decide (j ≠ v)) = before :=
        List.filter_eq_self.mpr fun j hj => decide_eq_true fun e => hb (e ▸ hj)
      have right : after.filter (fun j => decide (j ≠ v)) = after :=
        List.filter_eq_self.mpr fun j hj => decide_eq_true fun e => ha (e ▸ hj)
      rw [GateUnit.joinList_lists, if_pos rfl, GateUnit.closeMember_lists, if_pos rfl, split, List.filter_append,
        List.filter_cons_of_neg (by simp), left, right]
    · rw [GateUnit.joinList_inputs_ne _ _ apart.symm, GateUnit.closeMember_inputs_self]
    · rw [GateUnit.joinList_inputs_self, GateUnit.closeMember_inputs_ne _ _ apart]
  · obtain ⟨-, e⟩ | ⟨v, -, e⟩ | e := tryCandidate_cases w g i hp
    · rw [e, GateUnit.joinList_lists, if_neg hq]
    · rw [e, GateUnit.joinList_lists, if_neg hq, GateUnit.closeMember_lists, if_neg hq]
    · rw [e]
  · rw [releaseLastOn_eq, if_neg]
    rintro ⟨on, many⟩
    rcases h with h | h
    · simp [h] at on
    · omega
  · intro on many kept hkept
    have same : g.isKept = kept := funext fun i => Bool.eq_iff_iff.mpr ((g.isKept_iff i).trans (hkept i).symm)
    rw [releaseLastOn_eq, if_pos ⟨on, many⟩, same]
    refine ⟨?_, fun q hq => ?_, fun i => ?_⟩
    · rw [GateUnit.closeAll_lists, if_pos rfl]
      exact List.filter_congr fun j hj => by simp [hj]
    · rw [GateUnit.closeAll_lists, if_neg hq]
    · simp only [GateUnit.closeAll_inputs, List.mem_filter]

end Sys2Proof.Machine

namespace Sys2Proof.Machine
open Sys2Proof.Safety

/-! ## The gate unit's work at a completion (O22) -/

/-! ### One input (R108 to R110) -/

section MoveInput

variable {v : InputSettings} {g : GateLive}

theorem moveInput_not_auto (h : v.mode ≠ .auto) : moveInput v g = (g, false) := by
  unfold moveInput
  split
  · next e => exact absurd e h
  all_goals rfl

theorem moveInput_auto (h : v.mode = .auto) : moveInput v g = moveGate v g := by
  simp [moveInput, h]

theorem isCandidate_iff :
    isCandidate v g = true ↔ v.mode = .auto ∧ g.gate = .closed ∧ v.threshold ≤ g.peak := by
  simp [isCandidate, and_assoc]

theorem isCandidate_eq_false (h : v.mode ≠ .auto ∨ g.gate ≠ .closed) : isCandidate v g = false := by
  rw [← Bool.not_eq_true, isCandidate_iff]
  tauto

/-- The moves leave a gate CLOSED where it was, and where it was not (R109). -/
theorem moveInput_gate_closed_iff : (moveInput v g).1.gate = .closed ↔ g.gate = .closed := by
  unfold moveInput
  split
  · unfold moveGate
    dsimp only
    split
    · rfl
    · split <;> simp_all
    · split <;> simp_all
  all_goals rfl

/-- A hold that runs out leaves the input in HOLD, its counter one lower (R109). -/
theorem moveInput_runOut (h : (moveInput v g).2 = true) :
    (moveInput v g).1 = { g with counter := g.counter - 1 } := by
  unfold moveInput at h ⊢
  split at h
  · unfold moveGate at h ⊢
    dsimp only at h ⊢
    split at h
    · simp at h
    · split at h <;> simp at h
    · split at h
      · next low => rw [if_pos low]
      · simp at h
  all_goals simp at h

end MoveInput

/-! ### All inputs (R109, R110) -/

/-- Whether an input's hold runs out at this completion (R109). -/
def runsOut (w : WorkingCopy) (g : GateUnit) (i : InputIx) : Bool :=
  (moveInput (w.inputs.get i) (g.inputs.get i)).2

/-- Whether an input closes at this completion: its hold runs out, and LAST-ON does not keep it (R109, R110). -/
def closesAt (w : WorkingCopy) (g : GateUnit) (i : InputIx) : Bool :=
  runsOut w g i
    && keptByLastOn (w.precincts.get (w.inputs.get i).precinct).lastOn (runsOut w g)
      (g.lists.get (w.inputs.get i).precinct) ≠ some i

theorem moveGates_inputs (w : WorkingCopy) (g : GateUnit) (i : InputIx) :
    (moveGates w g).inputs.get i =
      if closesAt w g i then (moveInput (w.inputs.get i) (g.inputs.get i)).1.shut
      else (moveInput (w.inputs.get i) (g.inputs.get i)).1 := by
  simp only [moveGates, Table.get_ofFn, Table.get_zipWith]
  rfl

theorem moveGates_lists (w : WorkingCopy) (g : GateUnit) (p : PrecinctIx) :
    (moveGates w g).lists.get p = (g.lists.get p).filter fun i => !closesAt w g i := by
  simp only [moveGates, Table.get_map, Table.get_zipWith]
  rfl

/-- An input that closes has its counter at 0, whatever it was (R109). -/
theorem moveGates_inputs_closed {w : WorkingCopy} {g : GateUnit} {i : InputIx} (h : closesAt w g i = true) :
    (moveGates w g).inputs.get i = { g.inputs.get i with gate := .closed, counter := 0 } := by
  have ran : runsOut w g i = true := (Bool.and_eq_true_iff.mp h).1
  rw [moveGates_inputs, if_pos h, moveInput_runOut ran]
  rfl

theorem moveGates_inputs_open {w : WorkingCopy} {g : GateUnit} {i : InputIx} (h : closesAt w g i = false) :
    (moveGates w g).inputs.get i = (moveInput (w.inputs.get i) (g.inputs.get i)).1 := by
  rw [moveGates_inputs, h]
  rfl

theorem closesAt_of_not_runsOut {w : WorkingCopy} {g : GateUnit} {i : InputIx} (h : runsOut w g i = false) :
    closesAt w g i = false := by
  simp [closesAt, h]

/-- Where LAST-ON keeps no member, an input of the precinct closes exactly where its hold runs out (R109). -/
theorem closesAt_of_none_kept {w : WorkingCopy} {g : GateUnit} {p : PrecinctIx} {i : InputIx}
    (hp : (w.inputs.get i).precinct = p)
    (h : keptByLastOn (w.precincts.get p).lastOn (runsOut w g) (g.lists.get p) = none) :
    closesAt w g i = runsOut w g i := by
  simp [closesAt, hp, h]

/-- Where LAST-ON keeps a member, each other input of the precinct closes where its hold runs out (R110). -/
theorem closesAt_of_kept {w : WorkingCopy} {g : GateUnit} {p : PrecinctIx} {last i : InputIx}
    (hp : (w.inputs.get i).precinct = p)
    (h : keptByLastOn (w.precincts.get p).lastOn (runsOut w g) (g.lists.get p) = some last) :
    closesAt w g i = (runsOut w g i && decide (i ≠ last)) := by
  simp [closesAt, hp, h, eq_comm]

/-- A list whose members are its own precinct's, none of which LAST-ON keeps, loses those whose hold runs out. -/
theorem moveGates_none_kept {w : WorkingCopy} {g : GateUnit} {p : PrecinctIx}
    (own : ∀ i, i ∈ g.lists.get p → (w.inputs.get i).precinct = p)
    (h : keptByLastOn (w.precincts.get p).lastOn (runsOut w g) (g.lists.get p) = none) :
    (moveGates w g).lists.get p = (g.lists.get p).filter (fun i => !runsOut w g i)
    ∧ ∀ i, i ∈ g.lists.get p → runsOut w g i = true →
      (moveGates w g).inputs.get i = { g.inputs.get i with gate := .closed, counter := 0 } := by
  refine ⟨?_, fun i hi ran => moveGates_inputs_closed (by rw [closesAt_of_none_kept (own i hi) h, ran])⟩
  rw [moveGates_lists]
  exact List.filter_congr fun i hi => by rw [closesAt_of_none_kept (own i hi) h]

/-- A list without duplicates keeps its last member where all but that one are taken out. -/
theorem filter_eq_last {l : List InputIx} {last : InputIx} (once : l.Nodup) (h : l.getLast? = some last) :
    l.filter (fun i => decide (i = last)) = [last] :=
  (List.filter_beq last).trans (by rw [List.count_eq_one_of_mem once (List.mem_of_getLast? h), List.replicate_one])

/-- The gate unit with every input's new block peak: step 1 of R107. -/
def GateUnit.measured (g : GateUnit) (peaks : Table Int 32) : GateUnit :=
  { g with inputs := Table.zipWith (fun pk l => { l with peak := pk }) peaks g.inputs }

theorem GateUnit.measured_inputs (g : GateUnit) (peaks : Table Int 32) (i : InputIx) :
    (g.measured peaks).inputs.get i = { g.inputs.get i with peak := peaks.get i } :=
  Table.get_zipWith _ _ _ i

/-- The whole work as its four steps (R107). -/
theorem gateWork_eq {peaks : Table Int 32} {w : WorkingCopy} {g g1 : GateUnit} {candidates : List InputIx}
    (lists : g1.lists = g.lists) (inputs : ∀ i, g1.inputs.get i = { g.inputs.get i with peak := peaks.get i })
    (sorted : candidates.Pairwise (· < ·))
    (all : ∀ i, i ∈ candidates ↔ isCandidate (w.inputs.get i) (g1.inputs.get i) = true) :
    gateWork peaks w g =
      (List.finRange 4).foldl (releaseLastOn w) (candidates.foldl (tryCandidate w) (moveGates w g1)) := by
  have measured : g1 = g.measured peaks := by
    obtain ⟨is, ls⟩ := g1
    obtain rfl : ls = g.lists := lists
    exact congrArg (GateUnit.mk · g.lists) (Table.ext_get fun i => (inputs i).trans (g.measured_inputs peaks i).symm)
  have order : candidates = (List.finRange 32).filter fun i => isCandidate (w.inputs.get i) (g1.inputs.get i) := by
    refine List.Perm.eq_of_pairwise (le := (· < ·)) (fun a b _ _ h k => absurd h (lt_asymm k)) sorted
      ((List.pairwise_lt_finRange 32).filter _) ?_
    refine (List.perm_ext_iff_of_nodup sorted.nodup ((List.nodup_finRange 32).filter _)).mpr fun i => ?_
    simp [all]
  rw [order, measured]
  rfl

/-- Settles O22: the moves of one input by its mode and gate, those of a precinct by what LAST-ON keeps, and the work as
its four steps. -/
theorem gatesMoveByPeak : Obligations.GatesMoveByPeak := by
  unfold Obligations.GatesMoveByPeak
  refine ⟨fun v g => ⟨fun h => ⟨moveInput_not_auto h, isCandidate_eq_false (.inl h)⟩, fun auto => ?_⟩,
    fun w g p own runOut hrun => ?_, fun peaks w g g1 candidates lists inputs sorted all g3 e => ?_⟩
  · rw [moveInput_auto auto]
    refine ⟨fun h => ⟨by simp [moveGate, h], by simp [isCandidate_iff, auto, h]⟩,
      fun h => isCandidate_eq_false (.inr h), fun h peak => ?_, fun h peak => ?_, fun h peak => ?_, fun h peak => ?_⟩
    · simp [moveGate, h, Int.not_lt.mpr peak]
    · simp [moveGate, h, peak]
    · simp [moveGate, h, Int.not_lt.mpr peak]
    · simp only [moveGate, h, if_pos peak]
      congr 1
      exact decide_eq_decide.mpr (by omega)
  · obtain rfl : runOut = runsOut w g := funext hrun
    refine ⟨fun off => moveGates_none_kept own (by simp [keptByLastOn, off]), fun on ⟨i, hi, still⟩ => ?_,
      fun on once every last hlast => ?_, fun i _ still => moveGates_inputs_open (closesAt_of_not_runsOut still)⟩
    · refine moveGates_none_kept own (if_neg fun h => ?_)
      have ran := List.all_eq_true.mp (Bool.and_eq_true_iff.mp h).2 i hi
      simp [still] at ran
    · have kept : keptByLastOn (w.precincts.get p).lastOn (runsOut w g) (g.lists.get p) = some last := by
        rw [keptByLastOn, if_pos (by simpa [on] using every), hlast]
      have member : last ∈ g.lists.get p := List.mem_of_getLast? hlast
      refine ⟨?_, ?_, fun i hi apart => moveGates_inputs_closed ?_⟩
      · rw [moveGates_lists, ← filter_eq_last once hlast]
        refine List.filter_congr fun i hi => ?_
        simp [closesAt_of_kept (own i hi) kept, every i hi]
      · rw [moveGates_inputs_open (by simp [closesAt_of_kept (own last member) kept]),
          moveInput_runOut (every last member)]
      · simp [closesAt_of_kept (own i hi) kept, every i hi, apart]
  · rw [gateWork_eq lists inputs sorted all, ← e]
    rfl

end Sys2Proof.Machine

namespace Sys2Proof.Machine
open Sys2Proof.Safety

/-! ## SET-PRECINCT (O21) -/

/-! ### Closing until the list fits (R122) -/

/-- Fitting a list closes some of its members, and does nothing else. -/
theorem fitList_closes (w : WorkingCopy) (p : PrecinctIx) (maxnom k : Nat) (g : GateUnit) :
    ∃ ms, (∀ i ∈ ms, i ∈ g.lists.get p) ∧ fitList w p maxnom k g = g.closeAll p ms := by
  induction k generalizing g with
  | zero => exact ⟨[], by simp, rfl⟩
  | succ k ih =>
    unfold fitList
    split
    · exact ⟨[], by simp, rfl⟩
    · split
      · next v hv =>
        obtain ⟨ms, members, e⟩ := ih (g.closeMember p v)
        refine ⟨v :: ms, fun i hi => ?_, e⟩
        rcases List.mem_cons.mp hi with rfl | hi
        · exact victim?_mem hv
        · have left := members i hi
          rw [GateUnit.closeMember_lists, if_pos rfl] at left
          exact List.mem_of_mem_filter left
      · exact ⟨[], by simp, rfl⟩

/-- `kept` is what closing victims one by one leaves of a list: whoever is gone has a class number at least that of
whoever is left, and stood ahead of those left of its own class (R122). -/
structure Fitted (w : WorkingCopy) (maxnom : Nat) (l kept : List InputIx) : Prop where
  sublist : kept.Sublist l
  length : kept.length = min l.length maxnom
  ranked : ∀ a ∈ l, a ∉ kept → ∀ b ∈ kept,
    classOf w b ≤ classOf w a ∧ (classOf w b = classOf w a → [a, b].Sublist l)

theorem Fitted.of_fits {w : WorkingCopy} {maxnom : Nat} {l : List InputIx} (h : l.length ≤ maxnom) :
    Fitted w maxnom l l :=
  ⟨.refl l, (min_eq_left h).symm, fun _ ha gone => absurd ha gone⟩

theorem filter_ne_split {before after : List InputIx} {v : InputIx} (once : (before ++ v :: after).Nodup) :
    (before ++ v :: after).filter (fun j => decide (j ≠ v)) = before ++ after := by
  have apart := List.nodup_middle.mp once
  have kept : ∀ j ∈ before ++ after, decide (j ≠ v) = true := fun j hj =>
    decide_eq_true fun e => (List.nodup_cons.mp apart).1 (e ▸ hj)
  rw [List.filter_append, List.filter_cons_of_neg (by simp), ← List.filter_append, List.filter_eq_self.mpr kept]

/-- Closing one victim of a list too long, then fitting the rest, fits the list. -/
theorem Fitted.of_victim {w : WorkingCopy} {maxnom : Nat} {before after kept : List InputIx} {v : InputIx}
    (out : StandsOut w before v after) (long : maxnom < (before ++ v :: after).length)
    (rest : Fitted w maxnom (before ++ after) kept) : Fitted w maxnom (before ++ v :: after) kept := by
  have sub : (before ++ after).Sublist (before ++ v :: after) :=
    (List.Sublist.refl before).append (List.sublist_cons_self v after)
  refine ⟨rest.sublist.trans sub, ?_, fun a ha gone b hb => ?_⟩
  · have short := rest.length
    simp only [List.length_append, List.length_cons] at *
    omega
  · have left : b ∈ before ++ after := rest.sublist.subset hb
    by_cases e : a = v
    · subst e
      rcases List.mem_append.mp left with hb | hb
      · have below := out.before b hb
        exact ⟨below.le, fun same => absurd same below.ne⟩
      · refine ⟨out.after b hb, fun _ => List.Sublist.trans ?_ (List.sublist_append_right before _)⟩
        exact (List.singleton_sublist.mpr hb).cons_cons a
    · have ha : a ∈ before ++ after := by simpa [e] using ha
      obtain ⟨lower, ahead⟩ := rest.ranked a ha gone b hb
      exact ⟨lower, fun same => (ahead same).trans sub⟩

/-- With fuel for the whole list, it comes to fit (R122). -/
theorem fitList_fitted {w : WorkingCopy} {p : PrecinctIx} {maxnom k : Nat} {g : GateUnit}
    (once : (g.lists.get p).Nodup) (fuel : (g.lists.get p).length ≤ k) :
    Fitted w maxnom (g.lists.get p) ((fitList w p maxnom k g).lists.get p) := by
  induction k generalizing g with
  | zero => exact .of_fits (by omega)
  | succ k ih =>
    unfold fitList
    split
    · next fits => exact .of_fits fits
    · next long =>
      cases hv : victim? w 0 (g.lists.get p) with
      | none =>
        have none_ := (victim?_spec w 0 (g.lists.get p)).1 hv
        cases hl : g.lists.get p with
        | nil => simp [hl] at long
        | cons b bs => exact absurd (none_ b (by simp [hl])) (Nat.not_lt_zero _)
      | some v =>
        obtain ⟨-, before, after, split, out⟩ := (victim?_spec w 0 (g.lists.get p)).2 v hv
        have closed : (g.closeMember p v).lists.get p = before ++ after := by
          rw [GateUnit.closeMember_lists, if_pos rfl, split, filter_ne_split (split ▸ once)]
        have rest := ih (g := g.closeMember p v)
          (by rw [closed]; exact (List.nodup_cons.mp (List.nodup_middle.mp (split ▸ once))).2)
          (by
            rw [closed]
            simp only [split, List.length_append, List.length_cons] at fuel ⊢
            omega)
        rw [closed] at rest
        dsimp only
        rw [split] at long ⊢
        exact .of_victim out (Nat.not_le.mp long) rest

/-- In a list without duplicates, who stands ahead has the lower place. -/
theorem idxOf_lt_of_sublist {l : List InputIx} {a b : InputIx} (once : l.Nodup) (h : [a, b].Sublist l) :
    l.idxOf a < l.idxOf b := by
  obtain ⟨front, back, rfl, ha, hb⟩ := List.cons_sublist_iff.mp h
  have hb : b ∈ back := List.singleton_sublist.mp hb
  have apart : b ∉ front := fun hf => List.disjoint_of_nodup_append once hf hb
  rw [List.idxOf_append_of_mem ha, List.idxOf_append_of_notMem apart]
  exact (List.idxOf_lt_length_iff.mpr ha).trans_le (Nat.le_add_right _ _)

/-! ### The request -/

theorem takeSetPrecinct_range {n : Nat} {maxnom lastOn : Option Nat}
    (h : outside 4 n ∨ ∃ x, lastOn = some x ∧ 1 < x) (s : State) :
    takeSetPrecinct n maxnom lastOn s = (s, plain .range) := by
  unfold takeSetPrecinct
  split
  · next hp hon =>
    rcases h with h | ⟨x, rfl, h⟩
    · simp [number?_outside h] at hp
    · simp [optional?_refused rfl ((flag?_eq_none x).mpr h)] at hon
  · rfl

/-- The record that a SET-PRECINCT leaves (R122). -/
def editedPrecinct (v : PrecinctSettings) (maxnom : Option Nat) (lastOn : Option Bool) : PrecinctSettings where
  maxnom := (maxnom.map fun m => max 1 (min 16 m)).getD v.maxnom
  lastOn := lastOn.getD v.lastOn

/-- The effects of a SET-PRECINCT that passes: the record written, members closed until the list fits (R122). -/
def State.editPrecinct (s : State) (p : PrecinctIx) (new : PrecinctSettings) : State :=
  (s.setPrecinctSettings p new).setGates (fitList s.store.working p new.maxnom (s.listOf p).length s.gates)

theorem takeSetPrecinct_taken_eq (s : State) (p : PrecinctIx) (maxnom : Option Nat) (lastOn : Option Bool) :
    takeSetPrecinct (p.1 + 1) maxnom (lastOn.map flagCode) s =
      (s.editPrecinct p (editedPrecinct (s.precinctSettings p) maxnom lastOn),
        plain (okStatus (clampChanges clampMaxnom maxnom))) := by
  simp only [takeSetPrecinct, number?_succ, optional?_code flag?_code]
  rfl

theorem clampMaxnom_changes_iff (maxnom : Option Nat) :
    clampChanges clampMaxnom maxnom = true ↔ ∃ m, maxnom = some m ∧ (m = 0 ∨ 16 < m) := by
  rw [clampMaxnom, clampChanges_nat (by decide)]
  simp only [Nat.lt_one_iff]

section EditPrecinct

variable (s : State) (p : PrecinctIx) (new : PrecinctSettings)

theorem State.editPrecinct_precinctSettings (q : PrecinctIx) :
    (s.editPrecinct p new).precinctSettings q = if p = q then new else s.precinctSettings q :=
  Table.get_set _ _ _ _

/-- Only the list of the precinct changes, and the gates that shut are those of the members it loses (R122). -/
theorem State.editPrecinct_gates :
    (∀ q, q ≠ p → (s.editPrecinct p new).listOf q = s.listOf q)
    ∧ ∀ i, (s.editPrecinct p new).gates.inputs.get i =
        if i ∈ s.listOf p ∧ i ∉ (s.editPrecinct p new).listOf p then (s.gates.inputs.get i).shut
        else s.gates.inputs.get i := by
  obtain ⟨ms, members, e⟩ := fitList_closes s.store.working p new.maxnom (s.listOf p).length s.gates
  have gates : (s.editPrecinct p new).gates = s.gates.closeAll p ms := e
  refine ⟨fun q hq => ?_, fun i => ?_⟩
  · rw [State.listOf, gates, GateUnit.closeAll_lists, if_neg hq]
    rfl
  · rw [State.listOf, State.listOf, gates, GateUnit.closeAll_inputs, GateUnit.closeAll_lists, if_pos rfl]
    refine if_congr ⟨fun hi => ⟨members i hi, by simp [hi]⟩, fun ⟨hi, gone⟩ => ?_⟩ rfl rfl
    simpa [show i ∈ s.gates.lists.get p from hi] using gone

end EditPrecinct

/-- Settles O21: the checks, then the record and the fitted list, by induction on the members closed. -/
theorem setPrecinctFitsTheList : Obligations.SetPrecinctFitsTheList := by
  unfold Obligations.SetPrecinctFitsTheList
  refine ⟨fun s maxnom lastOn hs => ⟨fun n h => ?_, fun p x hx h => ?_⟩, fun s p maxnom lastOn hs once => ?_⟩
  · exact exec_answered hs rfl (takeSetPrecinct_range (.inl h) s)
  · exact exec_answered hs rfl (takeSetPrecinct_range (.inr ⟨x, hx, h⟩) s)
  · have taken := takeSetPrecinct_taken_eq s p maxnom lastOn
    rw [okStatus, if_congr (clampMaxnom_changes_iff maxnom) rfl rfl] at taken
    generalize edited : editedPrecinct (s.precinctSettings p) maxnom lastOn = new at taken
    have fitted : Fitted s.store.working new.maxnom (s.listOf p) ((s.editPrecinct p new).listOf p) :=
      fitList_fitted once le_rfl
    have record : (s.editPrecinct p new).precinctSettings p = new :=
      (s.editPrecinct_precinctSettings p new p).trans (if_pos rfl)
    obtain ⟨others, shut⟩ := s.editPrecinct_gates p new
    refine ⟨s.editPrecinct p new, exec_answered hs rfl taken, record.trans edited.symm,
      by rw [record]; exact fitted.length, fitted.sublist, fun a ha gone b hb => ?_, fun q hq => ⟨others q hq, ?_⟩, shut, by rw [record]; rfl⟩
    · obtain ⟨lower, ahead⟩ := fitted.ranked a ha gone b hb
      exact ⟨lower, fun same => idxOf_lt_of_sublist once (ahead same)⟩
    · rw [s.editPrecinct_precinctSettings, if_neg (Ne.symm hq)]

end Sys2Proof.Machine

namespace Sys2Proof.Machine
open Sys2Proof.Safety

/-! ## The open lists stay true (O55) -/

/-- What the fifth law says of a gate unit under some inputs' and precincts' records (R106, R112). -/
structure GateUnit.Sound (inputs : Table InputSettings 32) (precincts : Table PrecinctSettings 4) (g : GateUnit) :
    Prop where
  once : ∀ p, (g.lists.get p).Nodup
  fits : ∀ p, (g.lists.get p).length ≤ (precincts.get p).maxnom
  member : ∀ p i, i ∈ g.lists.get p ↔
    (inputs.get i).precinct = p ∧ (inputs.get i).mode = .auto ∧ (g.inputs.get i).gate ≠ .closed
  idle : ∀ i, (inputs.get i).mode ≠ .auto → (g.inputs.get i).gate = .closed

theorem openListsTrue_iff (s : State) :
    OpenListsTrue s ↔ s.gates.Sound s.store.working.inputs s.store.working.precincts :=
  ⟨fun ⟨lists, member, idle⟩ => ⟨fun p => (lists p).1, fun p => (lists p).2, member, idle⟩,
    fun h => ⟨fun p => ⟨h.once p, h.fits p⟩, h.member, h.idle⟩⟩

/-- Right after a start-up every list is empty and every gate closed (R124). -/
theorem GateUnit.atStart_sound (inputs : Table InputSettings 32) (precincts : Table PrecinctSettings 4) :
    GateUnit.atStart.Sound inputs precincts where
  once p := by simp [GateUnit.atStart]
  fits p := by simp [GateUnit.atStart]
  member p i := by simp [GateUnit.atStart]
  idle i _ := by simp [GateUnit.atStart]

section Sound

variable {inputs : Table InputSettings 32} {precincts : Table PrecinctSettings 4} {g : GateUnit}

/-- The law speaks of the lists and of which gates are closed, and of nothing else of a gate unit. -/
theorem GateUnit.Sound.of_gates {g' : GateUnit} (h : g.Sound inputs precincts) (lists : g'.lists = g.lists)
    (gates : ∀ i, (g'.inputs.get i).gate = (g.inputs.get i).gate) : g'.Sound inputs precincts where
  once := lists ▸ h.once
  fits := lists ▸ h.fits
  member p i := by rw [lists, gates]; exact h.member p i
  idle i hi := by rw [gates]; exact h.idle i hi

/-- Inputs of one precinct may close, members of its list or not. -/
theorem GateUnit.Sound.closeAll (h : g.Sound inputs precincts) {p : PrecinctIx} {ms : List InputIx}
    (own : ∀ i ∈ ms, (inputs.get i).precinct = p) : (g.closeAll p ms).Sound inputs precincts where
  once q := by
    rw [GateUnit.closeAll_lists]
    split
    · exact (h.once q).filter _
    · exact h.once q
  fits q := by
    rw [GateUnit.closeAll_lists]
    split
    · exact (List.length_filter_le _ _).trans (h.fits q)
    · exact h.fits q
  member q i := by
    rw [GateUnit.closeAll_lists, GateUnit.closeAll_inputs]
    by_cases hi : i ∈ ms
    · have closed : (g.inputs.get i).shut.gate = .closed := rfl
      have stays : q ≠ p → i ∉ g.lists.get q := fun hq mem => hq (((h.member q i).mp mem).1.symm.trans (own i hi))
      by_cases hq : q = p
      · simp [hq, hi, closed]
      · simp [hq, hi, closed, stays hq]
    · rw [if_neg hi, ← h.member q i]
      split <;> simp [hi]
  idle i hi := by
    rw [GateUnit.closeAll_inputs]
    split
    · rfl
    · exact h.idle i hi

theorem GateUnit.Sound.closeMember (h : g.Sound inputs precincts) {p : PrecinctIx} {i : InputIx}
    (own : (inputs.get i).precinct = p) : (g.closeMember p i).Sound inputs precincts :=
  h.closeAll (ms := [i]) (by simpa using own)

/-- A closed AUTO input may join its precinct's list where there is room. -/
theorem GateUnit.Sound.joinList (h : g.Sound inputs precincts) {p : PrecinctIx} {i : InputIx}
    (own : (inputs.get i).precinct = p) (auto : (inputs.get i).mode = .auto)
    (closed : (g.inputs.get i).gate = .closed) (room : (g.lists.get p).length < (precincts.get p).maxnom) :
    (g.joinList p i).Sound inputs precincts where
  once q := by
    have fresh : i ∉ g.lists.get q := fun mem => ((h.member q i).mp mem).2.2 closed
    rw [GateUnit.joinList_lists]
    split
    · exact List.nodup_append.mpr ⟨h.once q, List.nodup_singleton i, by
        intro a ha b hb e
        obtain rfl := List.mem_singleton.mp hb
        exact fresh (e ▸ ha)⟩
    · exact h.once q
  fits q := by
    rw [GateUnit.joinList_lists]
    split
    · next e =>
      subst e
      simpa using room
    · exact h.fits q
  member q j := by
    rw [GateUnit.joinList_lists]
    by_cases e : j = i
    · subst e
      have fresh : j ∉ g.lists.get q := fun mem => ((h.member q j).mp mem).2.2 closed
      rw [GateUnit.joinList_inputs_self]
      split
      · next hq => simp [own, auto, hq]
      · next hq => simp [fresh, own, Ne.symm hq]
    · rw [GateUnit.joinList_inputs_ne _ _ e, ← h.member q j]
      split <;> simp [e]
  idle j hj := by
    have apart : j ≠ i := fun e => hj (e ▸ auto)
    rw [GateUnit.joinList_inputs_ne _ _ apart]
    exact h.idle j hj

/-- The record of a closed input may change (R117, R118). -/
theorem GateUnit.Sound.setInput (h : g.Sound inputs precincts) {i : InputIx} (closed : (g.inputs.get i).gate = .closed)
    (v : InputSettings) : g.Sound (inputs.set i v) precincts where
  once := h.once
  fits := h.fits
  member p j := by
    rw [h.member p j, Table.get_set]
    split
    · next e => simp [← e, closed]
    · rfl
  idle j hj := by
    by_cases e : i = j
    · exact e ▸ closed
    · rw [Table.get_set_ne _ _ e] at hj
      exact h.idle j hj

/-- An input's record may change in all but its mode and precinct (R119). -/
theorem GateUnit.Sound.setInput_same (h : g.Sound inputs precincts) {i : InputIx} {v : InputSettings}
    (mode : (inputs.get i).mode = v.mode) (precinct : (inputs.get i).precinct = v.precinct) :
    g.Sound (inputs.set i v) precincts := by
  have same : ∀ j, ((inputs.set i v).get j).precinct = (inputs.get j).precinct
      ∧ ((inputs.set i v).get j).mode = (inputs.get j).mode := by
    intro j
    rw [Table.get_set]
    split
    · next e => exact e ▸ ⟨precinct.symm, mode.symm⟩
    · exact ⟨rfl, rfl⟩
  exact ⟨h.once, h.fits, fun p j => by rw [(same j).1, (same j).2]; exact h.member p j,
    fun j hj => h.idle j ((same j).2 ▸ hj)⟩

/-- A precinct's record may change where its list fits the new MAXNOM (R122). -/
theorem GateUnit.Sound.setPrecinct (h : g.Sound inputs precincts) {p : PrecinctIx} {v : PrecinctSettings}
    (fits : (g.lists.get p).length ≤ v.maxnom) : g.Sound inputs (precincts.set p v) where
  once := h.once
  fits q := by
    rw [Table.get_set]
    split
    · next e => exact e ▸ fits
    · exact h.fits q
  member := h.member
  idle := h.idle

end Sound

/-! ### The requests (R117, R118, R122) -/

theorem GateUnit.Sound.edited {inputs : Table InputSettings 32} {precincts : Table PrecinctSettings 4}
    {g : GateUnit} (h : g.Sound inputs precincts) (i : InputIx) (new : InputSettings) :
    (g.inputEdited i (inputs.get i) new).Sound (inputs.set i new) precincts := by
  unfold GateUnit.inputEdited
  split
  · next same => exact h.setInput_same same.1 same.2
  · exact (h.closeMember rfl).setInput (by rw [GateUnit.closeMember_inputs_self]; rfl) new

theorem GateUnit.Sound.fitted {w : WorkingCopy} {g : GateUnit} (h : g.Sound w.inputs w.precincts) (p : PrecinctIx)
    (new : PrecinctSettings) :
    (fitList w p new.maxnom (g.lists.get p).length g).Sound w.inputs (w.precincts.set p new) := by
  obtain ⟨ms, members, e⟩ := fitList_closes w p new.maxnom (g.lists.get p).length g
  have fitted := fitList_fitted (w := w) (maxnom := new.maxnom) (h.once p) le_rfl
  refine GateUnit.Sound.setPrecinct ?_ (by rw [fitted.length]; exact min_le_right _ _)
  rw [e]
  exact h.closeAll fun i hi => ((h.member p i).mp (members i hi)).1

/-! ### A block completion (R107) -/

section Completion

variable {w : WorkingCopy} {g : GateUnit}

/-- An input's gate is closed after the moves exactly where it was closed before or closes now. -/
theorem moveGates_gate_closed_iff (w : WorkingCopy) (g : GateUnit) (i : InputIx) :
    ((moveGates w g).inputs.get i).gate = .closed ↔ closesAt w g i = true ∨ (g.inputs.get i).gate = .closed := by
  rw [moveGates_inputs]
  split
  · next closes => simp [closes, GateLive.shut]
  · next stays => simp [stays, moveInput_gate_closed_iff]

theorem GateUnit.Sound.moved (h : g.Sound w.inputs w.precincts) :
    (moveGates w g).Sound w.inputs w.precincts where
  once p := by
    rw [moveGates_lists]
    exact (h.once p).filter _
  fits p := by
    rw [moveGates_lists]
    exact (List.length_filter_le _ _).trans (h.fits p)
  member p i := by
    rw [moveGates_lists, List.mem_filter, h.member p i, ne_eq, ne_eq, moveGates_gate_closed_iff]
    cases closesAt w g i <;> simp
  idle i hi := (moveGates_gate_closed_iff w g i).mpr (.inr (h.idle i hi))

theorem GateUnit.Sound.tried (h : g.Sound w.inputs w.precincts) {i : InputIx}
    (auto : (w.inputs.get i).mode = .auto) (closed : (g.inputs.get i).gate = .closed) :
    (tryCandidate w g i).Sound w.inputs w.precincts := by
  obtain ⟨room, e⟩ | ⟨v, hv, e⟩ | e := tryCandidate_cases w g i rfl
  · rw [e]
    exact h.joinList rfl auto closed room
  · obtain ⟨own, -, isOpen⟩ := (h.member _ v).mp hv
    have apart : i ≠ v := fun same => isOpen (same ▸ closed)
    rw [e]
    refine (h.closeMember own).joinList rfl auto ?_ ?_
    · rw [GateUnit.closeMember_inputs_ne _ _ apart]
      exact closed
    · rw [GateUnit.closeMember_lists, if_pos rfl]
      exact (List.length_filter_lt_length_iff_exists.mpr ⟨v, hv, by simp⟩).trans_le (h.fits _)
  · rw [e]
    exact h

/-- Trying one candidate opens no other gate (R114). -/
theorem tryCandidate_gate_closed {i j : InputIx} (apart : j ≠ i) (closed : (g.inputs.get j).gate = .closed) :
    ((tryCandidate w g i).inputs.get j).gate = .closed := by
  obtain ⟨-, e⟩ | ⟨v, -, e⟩ | e := tryCandidate_cases w g i rfl
  · rw [e, GateUnit.joinList_inputs_ne _ _ apart]
    exact closed
  · rw [e, GateUnit.joinList_inputs_ne _ _ apart]
    by_cases same : j = v
    · rw [same, GateUnit.closeMember_inputs_self]
      rfl
    · rw [GateUnit.closeMember_inputs_ne _ _ same]
      exact closed
  · rw [e]
    exact closed

/-- Closed AUTO inputs, each tried once, keep the lists true. -/
theorem GateUnit.Sound.triedAll {cs : List InputIx} (once : cs.Nodup) (h : g.Sound w.inputs w.precincts)
    (each : ∀ i ∈ cs, (w.inputs.get i).mode = .auto ∧ (g.inputs.get i).gate = .closed) :
    (cs.foldl (tryCandidate w) g).Sound w.inputs w.precincts := by
  induction cs generalizing g with
  | nil => exact h
  | cons c cs ih =>
    obtain ⟨apart, once⟩ := List.nodup_cons.mp once
    obtain ⟨auto, closed⟩ := each c (by simp)
    refine ih once (h.tried auto closed) fun i hi => ?_
    obtain ⟨auto, closed⟩ := each i (by simp [hi])
    exact ⟨auto, tryCandidate_gate_closed (fun e => apart (e ▸ hi)) closed⟩

theorem GateUnit.Sound.released (h : g.Sound w.inputs w.precincts) (p : PrecinctIx) :
    (releaseLastOn w g p).Sound w.inputs w.precincts := by
  rw [releaseLastOn_eq]
  split
  · exact h.closeAll fun i hi => ((h.member p i).mp (List.mem_of_mem_filter hi)).1
  · exact h

theorem GateUnit.Sound.worked (h : g.Sound w.inputs w.precincts) (peaks : Table Int 32) :
    (gateWork peaks w g).Sound w.inputs w.precincts := by
  have measured : (g.measured peaks).Sound w.inputs w.precincts :=
    h.of_gates rfl fun i => by rw [GateUnit.measured_inputs]
  rw [gateWork_eq (g := g) (g1 := g.measured peaks) rfl (g.measured_inputs peaks)
    ((List.pairwise_lt_finRange 32).filter _) (fun i => by rw [List.mem_filter, and_iff_right (List.mem_finRange i)])]
  refine List.foldlRecOn _ _ (measured.moved.triedAll ((List.nodup_finRange 32).filter _) fun i hi => ?_)
    fun _ sound p _ => sound.released p
  obtain ⟨auto, closed, -⟩ := isCandidate_iff.mp (List.mem_filter.mp hi).2
  exact ⟨auto, (moveGates_gate_closed_iff _ _ _).mpr (.inr closed)⟩

end Completion

end Sys2Proof.Machine

namespace Sys2Proof.Table

theorem map_eq_self_iff {α : Type} {n : Nat} {f : α → α} {t : Table α n} : t.map f = t ↔ ∀ i, f (t.get i) = t.get i :=
  ⟨fun h i => (get_map f t i).symm.trans (congrArg (·.get i) h), fun h => ext_get fun i => (get_map f t i).trans (h i)⟩

end Sys2Proof.Table

namespace Sys2Proof.Machine
open Sys2Proof.Safety

/-! ## What an installation in range is made of (O59) -/

/-! ### Clamped quantities -/

theorem clampInt_clampInt {lo hi : Int} (h : lo ≤ hi) (x : Int) :
    clampInt lo hi (clampInt lo hi x) = clampInt lo hi x := by
  simp only [clampInt]
  omega

theorem clampNat_clampNat {lo hi : Nat} (h : lo ≤ hi) (x : Nat) :
    clampNat lo hi (clampNat lo hi x) = clampNat lo hi x := by
  simp only [clampNat]
  omega

/-- A field that takes a clamped quantity, or keeps one in range, is in range. -/
theorem clamp_getD {α : Type} {clamp : α → α} (again : ∀ x, clamp (clamp x) = clamp x) (x : Option α) {held : α}
    (h : clamp held = held) : clamp ((x.map clamp).getD held) = (x.map clamp).getD held := by
  cases x with
  | none => exact h
  | some a => exact again a

theorem clamp_map {α : Type} {clamp : α → α} (again : ∀ x, clamp (clamp x) = clamp x) (x : Option α) :
    (x.map clamp).map clamp = x.map clamp := by
  cases x with
  | none => rfl
  | some a => exact congrArg some (again a)

theorem clampInput_eq_iff (v : InputSettings) :
    clampInput v = v ↔ clampInputTrim v.trim = v.trim ∧ clampThreshold v.threshold = v.threshold
      ∧ clampClosedAtt v.closedAtt = v.closedAtt ∧ clampHold v.hold = v.hold := by
  cases v
  simp [clampInput]

theorem clampPrecinct_eq_iff (v : PrecinctSettings) : clampPrecinct v = v ↔ clampMaxnom v.maxnom = v.maxnom := by
  cases v
  simp [clampPrecinct]

theorem clampZone_eq_iff (v : ZoneSettings) :
    clampZone v = v ↔ clampCeiling v.ceiling = v.ceiling ∧ clampZoneTrim v.trim = v.trim ∧ clampDuck v.duck = v.duck
      ∧ clampPrecedence v.precedence = v.precedence ∧ clampStandbyDelay v.standbyDelay = v.standbyDelay
      ∧ clampWakeTime v.wakeTime = v.wakeTime ∧ clampRingThreshold v.ringThreshold = v.ringThreshold
      ∧ clampPersistence v.persistence = v.persistence ∧ clampRelease v.release = v.release := by
  cases v
  simp [clampZone]

theorem clampNotch_eq_iff (n : FixedNotch) :
    clampNotch n = n ↔ 12 ≤ n.depth ∧ n.depth ≤ 72 ∧ 1 ≤ n.width ∧ n.width ≤ 10 := by
  obtain ⟨bin, depth, width⟩ := n
  simp only [clampNotch, clampNotchDepth, clampNotchWidth, clampInt, clampNat, FixedNotch.mk.injEq, true_and]
  omega

/-! ### Records as their requests write them -/

/-- A SET-INPUT leaves a record in range in range (R116). -/
theorem inputEdit?_clamped {f : InputFields} {v new : InputSettings} (h : inputEdit? f v = some new)
    (hv : clampInput v = v) : clampInput new = new := by
  rw [clampInput_eq_iff] at hv ⊢
  obtain ⟨trim, threshold, closedAtt, hold⟩ := hv
  unfold inputEdit? at h
  split at h
  · obtain rfl := Option.some.inj h
    exact ⟨clamp_getD (clampInt_clampInt (by decide)) _ trim, clamp_getD (clampInt_clampInt (by decide)) _ threshold,
      clamp_getD (clampInt_clampInt (by decide)) _ closedAtt, clamp_getD (clampNat_clampNat (by decide)) _ hold⟩
  · simp at h

/-- A SET-ZONE leaves a record in range in range (R144). -/
theorem zoneEdit?_clamped {f : ZoneFields} {v new : ZoneSettings} (h : zoneEdit? f v = some new)
    (hv : clampZone v = v) : clampZone new = new := by
  rw [clampZone_eq_iff] at hv ⊢
  obtain ⟨ceiling, trim, duck, precedence, standby, wake, threshold, persistence, release⟩ := hv
  unfold zoneEdit? at h
  split at h
  · obtain rfl := Option.some.inj h
    exact ⟨clamp_getD (clampInt_clampInt (by decide)) _ ceiling, clamp_getD (clampInt_clampInt (by decide)) _ trim,
      clamp_getD (clampInt_clampInt (by decide)) _ duck, clamp_getD (clampNat_clampNat (by decide)) _ precedence,
      clamp_getD (clampNat_clampNat (by decide)) _ standby, clamp_getD (clampNat_clampNat (by decide)) _ wake,
      clamp_getD (clampInt_clampInt (by decide)) _ threshold,
      clamp_getD (clampNat_clampNat (by decide)) _ persistence, clamp_getD (clampNat_clampNat (by decide)) _ release⟩
  · simp at h

/-- What a list of judged items holds comes from the items, one for each. -/
theorem all?_spec {α β : Type} {f : α → Option β} {as : List α} {bs : List β} (h : all? f as = some bs) :
    bs.length = as.length ∧ ∀ b ∈ bs, ∃ a, f a = some b := by
  induction as generalizing bs with
  | nil =>
    obtain rfl := Option.some.inj h
    simp
  | cons a as ih =>
    unfold all? at h
    split at h
    · next b rest hb hrest =>
      obtain rfl := Option.some.inj h
      obtain ⟨length, each⟩ := ih hrest
      refine ⟨by simp [length], fun c hc => ?_⟩
      rcases List.mem_cons.mp hc with rfl | hc
      · exact ⟨a, hb⟩
      · exact each c hc
    · simp at h

/-- A band list that SET-EQ stores unclamped (R171, R173). -/
def bandsInRange (bs : List EqBand) : Prop :=
  bs.map clampBand = bs ∧ bandsAcceptable bs = true

theorem eqBand?_clamped {f : BandForm} {b : EqBand} (h : eqBand? f = some b) :
    clampBand b = b ∧ (decide (b.kind ≠ .highPass) || b.gain.isNone) = true := by
  have frequency := clampNat_clampNat (show 20 ≤ 20000 by decide) f.frequency
  have width := clampNat_clampNat (show 1 ≤ 40 by decide) f.width
  have gain := clampInt_clampInt (show (-60 : Int) ≤ 48 by decide) (f.gain.getD 0)
  unfold eqBand? at h
  split at h
  · simp at h
  · obtain rfl := Option.some.inj h
    simp [clampBand, clampFrequency, clampBandWidth, frequency, width]
  · next k _ pass _ =>
    obtain rfl := Option.some.inj h
    have other : k ≠ .highPass := by
      rintro rfl
      cases hg : f.gain <;> simp_all
    simp [clampBand, clampFrequency, clampBandWidth, clampBandGain, frequency, width, gain, other]
  · simp at h

theorem acceptBands?_inRange {forms : List BandForm} {bs : List EqBand} (h : acceptBands? forms = some bs) :
    bandsInRange bs := by
  unfold acceptBands? at h
  split at h
  · simp at h
  · next few =>
    obtain ⟨length, each⟩ := all?_spec h
    have band : ∀ b ∈ bs, clampBand b = b ∧ (decide (b.kind ≠ .highPass) || b.gain.isNone) = true := by
      intro b hb
      obtain ⟨f, hf⟩ := each b hb
      exact eqBand?_clamped hf
    refine ⟨(List.map_congr_left fun b hb => (band b hb).1).trans (List.map_id bs), ?_⟩
    rw [bandsAcceptable, Bool.and_eq_true, decide_eq_true_eq]
    exact ⟨by omega, List.all_eq_true.mpr fun b hb => (band b hb).2⟩

/-- A cue that WRITE-CUE stores unclamped (R71 to R73). -/
def cueInRange (v : Cue) : Prop :=
  clampCue v = v ∧ cueAcceptable v = true

theorem cueEntry?_clamped {f : EntryForm} {e : CueEntry} (h : cueEntry? f = some e) : clampEntry e = e := by
  have level := clampInt_clampInt (show (-480 : Int) ≤ 48 by decide)
  have rate := clamp_map (clamp := clampRate) (clampNat_clampNat (by decide))
  have delay := clamp_map (clamp := clampDelay) (clampNat_clampNat (by decide))
  cases f <;> simp only [cueEntry?] at h
  case place =>
    split at h <;> cases h
    simp only [clampEntry, rate, delay, clampLevel, level]
  case set =>
    split at h <;> cases h
    next edit => simp only [clampEntry, rate, delayEdit?_clamped edit, clamp_map (clamp := clampLevel) level]
  case retire =>
    split at h <;> cases h
    rfl
  case zone =>
    split at h <;> cases h
    rfl
  case notify =>
    cases h
    rfl
  case unknown => cases h

theorem acceptCue?_inRange {label : List Byte} {forms : List EntryForm} {v : Cue}
    (h : acceptCue? label forms = some v) : cueInRange v := by
  unfold acceptCue? at h
  split at h
  · simp at h
  · next es hes =>
    split at h
    · simp at h
    · next fits =>
      obtain rfl := Option.some.inj h
      obtain ⟨length, each⟩ := all?_spec hes
      have entry : es.map clampEntry = es := (List.map_congr_left fun e he => by
        obtain ⟨f, hf⟩ := each e he
        exact cueEntry?_clamped hf).trans (List.map_id es)
      simp only [not_or, Nat.not_lt, Bool.not_eq_true, Bool.not_eq_false'] at fits
      obtain ⟨short, few, text⟩ := fits
      cases label with
      | nil => exact ⟨by simp [clampCue, entry, storedLabel], by simp [cueAcceptable, storedLabel, length, few]⟩
      | cons b bs =>
        exact ⟨by simp [clampCue, entry, storedLabel],
          by simpa [cueAcceptable, storedLabel, length, few] using And.intro short text⟩

/-! ### The whole installation -/

/-- A zone's FIXED notches as the working copy holds them, each in its ranges (R161). -/
def storedInRange (t : Table (Option FixedNotch) 8) : Prop :=
  ∀ k n, t.get k = some n → clampNotch n = n

/-- The FIXED notches of a list, each in its ranges (R161). -/
def fixedOnesInRange (ns : List Notch) : Prop :=
  ∀ n ∈ ns, fixedInRange n

/-- A working copy and the rings' notches in range, place by place. -/
structure Installed (w : WorkingCopy) (rings : Table Ring 24) : Prop where
  input : ∀ i, clampInput (w.inputs.get i) = w.inputs.get i
  precinct : ∀ p, clampPrecinct (w.precincts.get p) = w.precincts.get p
  zone : ∀ z, clampZone (w.zones.get z) = w.zones.get z
  distance : ∀ st z, clampDistance ((w.geometry.get st).get z) = (w.geometry.get st).get z
  preset : ∀ p, bandsInRange (w.presets.get p)
  cue : ∀ c v, w.cues.get c = some v → cueInRange v
  stored : ∀ z, storedInRange (w.notches.get z)
  ring : ∀ z, fixedOnesInRange (rings.get z).notches

theorem optionMap_eq_self_iff {α : Type} {f : α → α} {x : Option α} : x.map f = x ↔ ∀ a, x = some a → f a = a := by
  cases x <;> simp

theorem clampWorking_eq_iff (w : WorkingCopy) :
    clampWorking w = w ↔
      (∀ i, clampInput (w.inputs.get i) = w.inputs.get i)
      ∧ (∀ p, clampPrecinct (w.precincts.get p) = w.precincts.get p)
      ∧ (∀ z, clampZone (w.zones.get z) = w.zones.get z)
      ∧ (∀ st z, clampDistance ((w.geometry.get st).get z) = (w.geometry.get st).get z)
      ∧ (∀ p, (w.presets.get p).map clampBand = w.presets.get p)
      ∧ (∀ c v, w.cues.get c = some v → clampCue v = v)
      ∧ ∀ z, storedInRange (w.notches.get z) := by
  cases w
  simp only [clampWorking, WorkingCopy.mk.injEq, Table.map_eq_self_iff, optionMap_eq_self_iff, storedInRange]

theorem installationInRange_iff (s : State) :
    InstallationInRange s ↔ Installed s.store.working s.ring.zones := by
  unfold InstallationInRange
  rw [clampWorking_eq_iff]
  constructor
  · rintro ⟨⟨input, precinct, zone, distance, preset, cue, stored⟩, acceptable, bands, ring⟩
    exact ⟨input, precinct, zone, distance, fun p => ⟨preset p, bands p⟩, fun c v h => ⟨cue c v h, acceptable c v h⟩,
      stored, ring⟩
  · intro h
    exact ⟨⟨h.input, h.precinct, h.zone, h.distance, fun p => (h.preset p).1, fun c v hv => (h.cue c v hv).1, h.stored⟩,
      fun c v hv => (h.cue c v hv).2, fun p => (h.preset p).2, h.ring⟩

end Sys2Proof.Machine

namespace Sys2Proof.Machine
open Sys2Proof.Safety

/-! ## What every step keeps, whatever it is

A relation of states that the owners, the port and the events keep is kept by every step: the ways a request reaches its
owner are walked once. -/

/-- Every state has the relation to itself, it chains, and each change of the port and each owner keeps it. -/
structure Carried (R : State → State → Prop) : Prop where
  refl : ∀ s, R s s
  trans : ∀ {s t u}, R s t → R t u → R s u
  port : ∀ s p, R s (s.setPort p)
  owner : ∀ {i owner}, ownerOf i = some owner → ∀ s, R s (owner s).1

section Carried

variable {R : State → State → Prop}

theorem Carried.takeRequest (h : Carried R) (kind : Byte) {owner : State → State × Reply} {s : State}
    (taken : R s (owner s).1) : R s (takeRequest kind owner s) := by
  unfold Machine.takeRequest
  split
  · exact h.port s _
  · split
    · next ho =>
      rw [ho] at taken
      exact h.trans taken (h.port _ _)
    · next ho =>
      rw [ho] at taken
      exact h.trans taken (h.port _ _)

theorem Carried.takeFrame (h : Carried R) (kind : Byte) (body : List Byte) (s : State) :
    R s (takeFrame kind body s) := by
  unfold Machine.takeFrame
  split
  · exact h.port s _
  · exact h.port s _
  · exact h.port s _
  · next ho =>
    obtain ⟨i, -, ho⟩ := Option.bind_eq_some_iff.mp ho
    exact h.takeRequest kind (h.owner ho s)

theorem Carried.completeFrame (h : Carried R) (bytes : List Byte) (s : State) : R s (completeFrame bytes s) := by
  unfold Machine.completeFrame
  split
  · split
    · exact h.takeFrame _ _ s
    · exact h.port s _
  · exact h.refl s
  · exact h.refl s

theorem Carried.receiveByte (h : Carried R) (b : Byte) (s : State) : R s (receiveByte b s) := by
  unfold Machine.receiveByte keepByte
  split
  · exact h.refl s
  · split
    · split
      · exact h.port s _
      · exact h.refl s
    · dsimp only
      split
      · split <;> exact h.port s _
      · split
        · exact h.trans (h.trans (h.port s _) (h.completeFrame _ _)) (h.port _ _)
        · exact h.port s _
    · exact h.port s _

theorem Carried.gapTimeout (h : Carried R) (s : State) : R s (gapTimeout s) := by
  unfold Machine.gapTimeout
  split
  · exact h.refl s
  · exact h.port s _
  · exact h.port s _

theorem Carried.answerSent (h : Carried R) (s : State) : R s (answerSent s) := by
  unfold Machine.answerSent
  split
  · exact h.port s _
  · exact h.refl s
  · exact h.refl s

theorem Carried.whenRunning (h : Carried R) {f : State → State} {s : State} (hf : R s (f s)) :
    R s (whenRunning f s) := by
  unfold Machine.whenRunning
  split
  · exact hf
  · exact h.refl s
  · exact h.refl s

theorem Carried.onFrame (h : Carried R) {f : State → State} {s : State} (hf : R s (f s)) : R s (onFrame f s) := by
  refine h.whenRunning ?_
  split
  · exact hf
  · exact h.refl s

theorem Carried.onZone (h : Carried R) {f : State → ZoneIx → State} {s : State} (hf : ∀ z, R s (f s z))
    (zone : Nat) : R s (onZone zone f s) := by
  unfold Machine.onZone
  split
  · exact h.whenRunning (hf _)
  · exact h.refl s

/-- A step idles, or takes the command at the front of the queue: a request, which reaches its owner, or an event. -/
theorem Carried.step (h : Carried R) (pending : ∀ s rest, R s { s with pending := rest })
    (event : ∀ {i s t}, ownerOf i = none → exec i s = .next t → R s t) {s t : State} (ht : step s = .next t) :
    R s t := by
  unfold Machine.step at ht
  split at ht
  · obtain rfl := Host.Outcome.next.inj ht
    exact h.refl s
  · next i rest _ =>
    refine h.trans (pending s rest) ?_
    cases ho : ownerOf i with
    | none => exact event ho ht
    | some owner =>
      obtain ⟨kind, he⟩ := exec_of_ownerOf ho
      obtain rfl := Host.Outcome.next.inj ((he _).symm.trans ht)
      exact h.onFrame (h.takeRequest kind (h.owner ho _))

end Carried

end Sys2Proof.Machine

namespace Sys2Proof.Machine
open Sys2Proof.Safety

/-! ## The open lists, the cue queue and the installation (O55, O59)

The three laws speak of the working copy, the gate unit, the cue queue and the rings' notches. Most of what a part does
leaves all of these alone. -/

/-- What the eleventh law says of a queue under a cue table (R76). -/
structure QueueSound (cues : Table (Option Cue) 64) (queue : List CueIx) : Prop where
  short : queue.length ≤ 4
  defined : ∀ c ∈ queue, cues.get c ≠ none
  first : cues.get 0 ≠ none

theorem queueOfDefinedCues_iff (s : State) :
    QueueOfDefinedCues s ↔ QueueSound s.store.working.cues s.engine.queue :=
  ⟨fun ⟨short, defined, first⟩ => ⟨short, defined, first⟩, fun h => ⟨h.short, h.defined, h.first⟩⟩

/-- The three laws pass from `s` to `t`; a part of `t` that is as it was in `s` needs no word. -/
structure HoldingsPass (s t : State) : Prop where
  lists : s.gates.Sound s.store.working.inputs s.store.working.precincts →
    t.gates.Sound t.store.working.inputs t.store.working.precincts := by exact id
  queue : QueueSound s.store.working.cues s.engine.queue → QueueSound t.store.working.cues t.engine.queue := by exact id
  installed : Installed s.store.working s.ring.zones → Installed t.store.working t.ring.zones := by exact id

theorem HoldingsPass.refl (s : State) : HoldingsPass s s := {}

theorem HoldingsPass.trans {s t u : State} (h : HoldingsPass s t) (g : HoldingsPass t u) : HoldingsPass s u :=
  ⟨g.lists ∘ h.lists, g.queue ∘ h.queue, g.installed ∘ h.installed⟩

theorem HoldingsPass.raiseIf {s t : State} (h : HoldingsPass s t) (c : Bool) (n : Notice) :
    HoldingsPass s (t.raiseIf c n) := by
  cases c
  · exact h
  · exact h.trans {}

/-! ### The queue -/

section Queue

variable {cues : Table (Option Cue) 64} {queue : List CueIx}

theorem QueueSound.tail (h : QueueSound cues queue) : QueueSound cues queue.tail :=
  ⟨by rw [List.length_tail]; exact (Nat.sub_le _ _).trans h.short, fun c hc => h.defined c (List.mem_of_mem_tail hc),
    h.first⟩

theorem QueueSound.fired (h : QueueSound cues queue) {c : CueIx} (room : queue.length < 4) (hc : cues.get c ≠ none) :
    QueueSound cues (queue ++ [c]) where
  short := by
    rw [List.length_append, List.length_singleton]
    omega
  defined d hd := by
    rcases List.mem_append.mp hd with hd | hd
    · exact h.defined d hd
    · exact List.mem_singleton.mp hd ▸ hc
  first := h.first

/-- A cue may be written where it is defined by it, or neither queued nor cue 0 (R73). -/
theorem QueueSound.written (h : QueueSound cues queue) {c : CueIx} {v : Option Cue}
    (hv : v = none → c ∉ queue ∧ c ≠ 0) : QueueSound (cues.set c v) queue := by
  have held : ∀ d, cues.get d ≠ none → (c = d → v ≠ none) → (cues.set c v).get d ≠ none := by
    intro d hd same
    rw [Table.get_set]
    split
    · next e => exact same e
    · exact hd
  exact ⟨h.short, fun d hd => held d (h.defined d hd) fun e hn => (hv hn).1 (e ▸ hd),
    held 0 h.first fun e hn => (hv hn).2 e⟩

/-- A start-up queues cue 0 (R90). -/
theorem QueueSound.atStart (first : cues.get 0 ≠ none) : QueueSound cues RouteEngine.atStart.queue :=
  ⟨by decide, fun c hc => by
    obtain rfl := List.mem_singleton.mp hc
    exact first, first⟩

end Queue

/-! ### Places of the working copy -/

section Places

variable {w : WorkingCopy} {rings : Table Ring 24}

/-- A property of every place of a table holds after one place has taken a value that has it. -/
theorem forall_get_set {α : Type} {n : Nat} {t : Table α n} {P : α → Prop} (h : ∀ i, P (t.get i)) {i : Fin n} {a : α}
    (ha : P a) (j : Fin n) : P ((t.set i a).get j) := by
  rw [Table.get_set]
  split
  · exact ha
  · exact h j

theorem Installed.setInput (h : Installed w rings) {i : InputIx} {v : InputSettings} (hv : clampInput v = v) :
    Installed { w with inputs := w.inputs.set i v } rings :=
  { h with input := forall_get_set (P := fun v => clampInput v = v) h.input hv }

theorem Installed.setPrecinct (h : Installed w rings) {p : PrecinctIx} {v : PrecinctSettings}
    (hv : clampPrecinct v = v) : Installed { w with precincts := w.precincts.set p v } rings :=
  { h with precinct := forall_get_set (P := fun v => clampPrecinct v = v) h.precinct hv }

theorem Installed.setZone (h : Installed w rings) {z : ZoneIx} {v : ZoneSettings} (hv : clampZone v = v) :
    Installed { w with zones := w.zones.set z v } rings :=
  { h with zone := forall_get_set (P := fun v => clampZone v = v) h.zone hv }

theorem Installed.setPreset (h : Installed w rings) {p : Fin 15} {bs : List EqBand} (hb : bandsInRange bs) :
    Installed { w with presets := w.presets.set p bs } rings :=
  { h with preset := forall_get_set h.preset hb }

theorem Installed.setCue (h : Installed w rings) {c : CueIx} {v : Option Cue} (hv : ∀ u, v = some u → cueInRange u) :
    Installed { w with cues := w.cues.set c v } rings :=
  { h with cue := forall_get_set (P := fun v => ∀ u, v = some u → cueInRange u) h.cue hv }

theorem Installed.setDistance (h : Installed w rings) (st : StationIx) (z : ZoneIx) (d : Nat) :
    Installed { w with geometry := w.geometry.modify st fun row => row.set z (clampDistance d) } rings :=
  { h with
    distance := forall_get_set (P := fun row : Table Nat 24 => ∀ z, clampDistance (row.get z) = row.get z) h.distance
      (forall_get_set (P := fun d => clampDistance d = d) (h.distance st) (clampNat_clampNat (by decide) d)) }

theorem Installed.setRing (h : Installed w rings) {z : ZoneIx} {r : Ring} (hr : fixedOnesInRange r.notches) :
    Installed w (rings.set z r) :=
  { h with ring := forall_get_set (P := fun r : Ring => fixedOnesInRange r.notches) h.ring hr }

theorem clampMaxnom_clampMaxnom (n : Nat) : clampMaxnom (clampMaxnom n) = clampMaxnom n :=
  clampNat_clampNat (by decide) n

end Places

end Sys2Proof.Machine

namespace Sys2Proof.Machine
open Sys2Proof.Safety

/-! ### The rings' notches (R155 to R161) -/

theorem fixedInRange_iff (n : Notch) :
    fixedInRange n ↔ ∀ f, n.stored = some f → clampNotch f = f := by
  unfold fixedInRange Notch.stored
  cases n.kind with
  | fixed w => simp [clampNotch_eq_iff]
  | dynamic => simp

theorem fixedInRange_of_dynamic {n : Notch} (h : n.kind = .dynamic) : fixedInRange n :=
  fun w e => by simp [h] at e

/-- A notch that keeps its kind and takes a depth in range is in range. -/
theorem fixedInRange_of_depth {m n : Notch} (h : fixedInRange n) (kind : m.kind = n.kind)
    (depth : 12 ≤ n.depth → n.depth ≤ 72 → 12 ≤ m.depth ∧ m.depth ≤ 72) : fixedInRange m := by
  intro w hw
  obtain ⟨low, high, narrow, wide⟩ := h w (kind ▸ hw)
  obtain ⟨low, high⟩ := depth low high
  exact ⟨low, high, narrow, wide⟩

theorem fixedInRange_of_same {m n : Notch} (h : fixedInRange n) (kind : m.kind = n.kind) (depth : m.depth = n.depth) :
    fixedInRange m :=
  fixedInRange_of_depth h kind fun low high => depth ▸ ⟨low, high⟩

theorem fixedInRange_pinned (b : Nat) (d : Int) (w : Nat) (fresh : Bool) (k : NotchIx) :
    fixedInRange (pinned b (clampNotchDepth d) (clampNotchWidth w) fresh k) := by
  intro v hv
  obtain rfl : clampNotchWidth w = v := by simpa [pinned] using hv
  simp only [pinned, clampNotchDepth, clampNotchWidth, clampInt, clampNat]
  omega

section Notches

variable {ns : List Notch} (h : fixedOnesInRange ns)

include h

theorem fixedOnesInRange.sublist {ms : List Notch} (sub : ms.Sublist ns) : fixedOnesInRange ms :=
  fun n hn => h n (sub.subset hn)

theorem fixedOnesInRange.concat {n : Notch} (hn : fixedInRange n) : fixedOnesInRange (ns ++ [n]) := by
  intro m hm
  rcases List.mem_append.mp hm with hm | hm
  · exact h m hm
  · exact List.mem_singleton.mp hm ▸ hn

theorem fixedOnesInRange.map {f : Notch → Notch} (hf : ∀ n, fixedInRange n → fixedInRange (f n)) :
    fixedOnesInRange (ns.map f) := by
  intro m hm
  obtain ⟨n, hn, rfl⟩ := List.mem_map.mp hm
  exact hf n (h n hn)

theorem fixedOnesInRange.mapSlot (k : NotchIx) {f : Notch → Notch} (hf : ∀ n, fixedInRange n → fixedInRange (f n)) :
    fixedOnesInRange (mapSlot k f ns) :=
  h.map fun n hn => by
    split
    · exact hf n hn
    · exact hn

theorem fixedOnesInRange.roomFor {k : NotchIx} {ms : List Notch} (room : roomFor ns = some (k, ms)) :
    fixedOnesInRange ms := by
  unfold Machine.roomFor at room
  split at room <;> cases room
  · exact h
  · exact h.sublist List.filter_sublist

/-- A pin leaves every FIXED notch in its ranges: the pinned one is clamped (R161). -/
theorem fixedOnesInRange.pinIn {b w : Nat} {d : Int} {ms : List Notch} {k : NotchIx}
    (pin : pinIn ns b (clampNotchDepth d) (clampNotchWidth w) = some (ms, k)) : fixedOnesInRange ms := by
  unfold Machine.pinIn at pin
  split at pin
  · obtain ⟨rfl, -⟩ := Prod.mk.inj (Option.some.inj pin)
    refine (h.sublist List.filter_sublist).map fun n hn => ?_
    split
    · exact fixedInRange_pinned _ _ _ _ _
    · exact hn
  · split at pin
    · next room =>
      obtain ⟨rfl, -⟩ := Prod.mk.inj (Option.some.inj pin)
      exact (h.roomFor room).concat (fixedInRange_pinned _ _ _ _ _)
    · simp at pin

theorem fixedOnesInRange.aged (release : Nat) (hit : Option NotchIx) :
    fixedOnesInRange (ns.filterMap (ageNotch release hit)) := by
  intro m hm
  obtain ⟨n, hn, aged⟩ := List.mem_filterMap.mp hm
  unfold ageNotch at aged
  split at aged
  · obtain rfl := Option.some.inj aged
    exact h n hn
  · dsimp only at aged
    split at aged
    · obtain rfl := Option.some.inj aged
      exact fixedInRange_of_same (h n hn) rfl rfl
    · next dynamic =>
      have kept : m.kind = n.kind := by
        split at aged
        · obtain rfl := Option.some.inj aged
          rfl
        · split at aged
          · obtain rfl := Option.some.inj aged
            rfl
          · simp at aged
      exact fixedInRange_of_dynamic (kept.trans dynamic)

/-- The FIXED notches that the working copy takes from a list in range are in range (R150). -/
theorem fixedOnesInRange.stored : storedInRange (storedNotches ns) := by
  intro k n hn
  rw [storedNotches, Table.get_ofFn] at hn
  obtain ⟨m, hm, hs⟩ := Option.bind_eq_some_iff.mp hn
  exact (fixedInRange_iff m).mp (h m (List.mem_of_find?_eq_some hm)) n hs

end Notches

/-- The notches that a start-up sets are those of the working copy (R167). -/
theorem storedInRange.startNotches {t : Table (Option FixedNotch) 8} (h : storedInRange t) :
    fixedOnesInRange (startNotches t) := by
  intro n hn
  obtain ⟨k, -, hk⟩ := List.mem_filterMap.mp hn
  obtain ⟨f, hf, rfl⟩ := Option.map_eq_some_iff.mp hk
  refine (fixedInRange_iff _).mpr fun f' hf' => ?_
  obtain rfl : f = f' := by simpa [Notch.stored] using hf'
  exact h k f hf

/-! ### A frame result (R154 to R160) -/

@[simp] theorem Ring.persist_notches (r : Ring) (c : Option Nat) : (r.persist c).notches = r.notches := by
  unfold Ring.persist
  split
  · rfl
  · rfl
  · split <;> rfl

@[simp] theorem Ring.marginStep_notches (r : Ring) : r.marginStep.notches = r.notches := by
  unfold Ring.marginStep
  split <;> rfl

@[simp] theorem Ring.recover_notches (release : Nat) (confirmed : Bool) (r : Ring) :
    (r.recover release confirmed).notches = r.notches := by
  unfold Ring.recover
  split
  · rfl
  · dsimp only
    split <;> rfl

section Frame

variable {r : Ring} (h : fixedOnesInRange r.notches)

include h

/-- Ringing under a FIXED notch leaves its depth; under a DYNAMIC one it deepens up to 72 (R155). -/
theorem Ring.hitNotch_fixed (n : Notch) : fixedOnesInRange (r.hitNotch n).ring.notches := by
  unfold Ring.hitNotch
  split
  · refine h.mapSlot _ fun m hm => fixedInRange_of_depth hm rfl fun low high => ?_
    dsimp only
    omega
  all_goals exact h.mapSlot _ fun m hm => fixedInRange_of_same hm rfl rfl

theorem Ring.answer_fixed (b : Nat) : fixedOnesInRange (r.answer b).ring.notches := by
  unfold Ring.answer
  split
  · exact Ring.hitNotch_fixed h _
  · unfold Ring.placeNotch
    split
    · next room => exact (h.roomFor room).concat (fixedInRange_of_dynamic rfl)
    · exact h

theorem Ring.ageAll_fixed (release : Nat) (hit : Option NotchIx) (confirmed : Bool) :
    fixedOnesInRange (r.ageAll release hit confirmed).notches := by
  unfold Ring.ageAll
  split
  · split <;> exact h
  · rw [Ring.recover_notches]
    exact h.aged release hit

/-- A frame result places, deepens and releases DYNAMIC notches, and leaves the FIXED ones in their ranges. -/
theorem Ring.frameOutcome_fixed (v : ZoneSettings) (c : Option Nat) :
    fixedOnesInRange (r.frameOutcome v c).ring.notches := by
  have persisted : fixedOnesInRange (r.persist c).notches := by rwa [Ring.persist_notches]
  unfold Ring.frameOutcome
  dsimp only
  split
  · exact persisted
  · next b _ _ _ =>
    have answered : fixedOnesInRange (({ r.persist c with count := 0 } : Ring).answer b).ring.notches :=
      Ring.answer_fixed (r := { r.persist c with count := 0 }) persisted b
    refine Ring.ageAll_fixed ?_ _ _ _
    split
    · rwa [Ring.marginStep_notches]
    · exact answered
  · exact Ring.ageAll_fixed persisted _ _ _
  · exact Ring.ageAll_fixed persisted _ _ _

end Frame

end Sys2Proof.Machine

namespace Sys2Proof.Machine
open Sys2Proof.Safety

/-! ### The requests -/

theorem onRoute_holdingsPass {act : SlotIx → Route → State → State × Reply} {s : State}
    (h : ∀ k r, HoldingsPass s (act k r s).1) (name : RouteName) : HoldingsPass s (onRoute name act s).1 := by
  unfold onRoute
  split
  · exact h _ _
  · exact {}

theorem takePlaceRoute_holdingsPass (input zone : Nat) (level : Int) (rate preset delay : Option Nat) (s : State) :
    HoldingsPass s (takePlaceRoute input zone level rate preset delay s).1 := by
  unfold takePlaceRoute
  split
  · split
    · exact {}
    · split <;> exact {}
  · exact {}

theorem takeWriteCue_holdingsPass (cue : Nat) (form : CueForm) (s : State) :
    HoldingsPass s (takeWriteCue cue form s).1 := by
  unfold takeWriteCue
  split
  · exact {}
  · split
    · exact {}
    · next c _ first =>
      split
      · exact {}
      · next fresh =>
        exact { queue := fun h => h.written fun _ => ⟨fresh, first⟩, installed := fun h => h.setCue (by simp) }
  · split
    · exact {}
    · next v accepted =>
      split
      · exact {}
      · exact { queue := fun h => h.written (by simp)
                installed := fun h => h.setCue fun u e => Option.some.inj e ▸ acceptCue?_inRange accepted }

theorem takeFireCue_holdingsPass (cue : Nat) (s : State) : HoldingsPass s (takeFireCue cue s).1 := by
  unfold takeFireCue
  split
  · exact {}
  · split
    · exact {}
    · next defined =>
      split
      · exact {}
      · next room => exact { queue := fun h => h.fired (Nat.not_le.mp room) defined }

theorem takeSetInput_holdingsPass (input : Nat) (f : InputFields) (s : State) :
    HoldingsPass s (takeSetInput input f s).1 := by
  unfold takeSetInput
  split
  · exact {}
  · next i _ =>
    split
    · exact {}
    · next new edit =>
      dsimp only [State.editInput]
      have installed (h : Installed s.store.working s.ring.zones) :=
        h.setInput (i := i) (inputEdit?_clamped edit (h.input i))
      split <;> exact { lists := fun h => h.edited i new, installed := installed }

theorem takeSetPrecinct_holdingsPass (precinct : Nat) (maxnom lastOn : Option Nat) (s : State) :
    HoldingsPass s (takeSetPrecinct precinct maxnom lastOn s).1 := by
  unfold takeSetPrecinct
  split
  · next p on _ _ =>
    exact { lists := fun h => h.fitted p _
            installed := fun h => h.setPrecinct ((clampPrecinct_eq_iff _).mpr
              (clamp_getD clampMaxnom_clampMaxnom maxnom ((clampPrecinct_eq_iff _).mp (h.precinct p)))) }
  · exact {}

theorem takeSetZone_holdingsPass (zone : Nat) (f : ZoneFields) (s : State) :
    HoldingsPass s (takeSetZone zone f s).1 := by
  unfold takeSetZone
  split
  · exact {}
  · next z _ =>
    split
    · exact {}
    · next new edit =>
      dsimp only [State.editZone]
      split <;> exact { installed := fun h => h.setZone (zoneEdit?_clamped edit (h.zone z)) }

theorem takeSetGeometry_holdingsPass (station zone distance : Nat) (s : State) :
    HoldingsPass s (takeSetGeometry station zone distance s).1 := by
  unfold takeSetGeometry
  split
  · exact { installed := fun h => h.setDistance _ _ _ }
  · exact {}

/-- A notch list in range may be put in place of another, with the working copy's FIXED notches (R150). -/
theorem State.setNotches_holdingsPass {s : State} {z : ZoneIx} {ns : List Notch}
    (h : fixedOnesInRange (s.ringOf z).notches → fixedOnesInRange ns) : HoldingsPass s (s.setNotches z ns) where
  installed held :=
    have inRange := h (held.ring z)
    { held.setRing (r := { s.ringOf z with notches := ns }) inRange with
      stored := forall_get_set held.stored inRange.stored }

theorem takePinNotch_holdingsPass (zone bin : Nat) (depth : Int) (width : Nat) (s : State) :
    HoldingsPass s (takePinNotch zone bin depth width s).1 := by
  unfold takePinNotch
  split
  · exact {}
  · split
    · exact {}
    · split
      · next pin => exact State.setNotches_holdingsPass fun h => h.pinIn pin
      · exact {}

theorem takeDropNotch_holdingsPass (zone slot : Nat) (s : State) : HoldingsPass s (takeDropNotch zone slot s).1 := by
  unfold takeDropNotch
  split
  · split
    · exact State.setNotches_holdingsPass fun h => h.sublist List.filter_sublist
    · exact {}
  · exact {}

theorem State.setRing_holdingsPass {s : State} {z : ZoneIx} {r : Ring}
    (h : fixedOnesInRange (s.ringOf z).notches → fixedOnesInRange r.notches) : HoldingsPass s (s.setRing z r) where
  installed held := held.setRing (h (held.ring z))

theorem takeSetEq_holdingsPass (preset : Nat) (bands : List BandForm) (s : State) :
    HoldingsPass s (takeSetEq preset bands s).1 := by
  unfold takeSetEq
  split
  · next accepted => exact { installed := fun h => h.setPreset (acceptBands?_inRange accepted) }
  · exact {}

/-- Every owner keeps the three laws; those that read, and those that act on a route, the clock, the port or the flash,
leave all that the laws speak of. -/
theorem ownerOf_holdingsPass {i : Instr} {owner : State → State × Reply} (h : ownerOf i = some owner) (s : State) :
    HoldingsPass s (owner s).1 := by
  cases i <;> cases h
  case placeRoute => exact takePlaceRoute_holdingsPass _ _ _ _ _ _ s
  case readRoute => exact onRoute_holdingsPass (fun _ _ => {}) _
  case retireRoute => exact onRoute_holdingsPass (fun _ _ => by split <;> exact {}) _
  case stageRoute =>
    unfold takeStageRoute
    split
    · refine onRoute_holdingsPass (fun _ _ => ?_) _
      split
      · exact {}
      · split <;> exact {}
    · exact {}
  case armRoute =>
    refine onRoute_holdingsPass (fun _ _ => ?_) _
    split
    · exact {}
    · split <;> exact {}
  case haltRoute => exact onRoute_holdingsPass (fun _ _ => by split <;> exact {}) _
  case clearRoute => exact onRoute_holdingsPass (fun _ _ => by split <;> exact {}) _
  case writeCue => exact takeWriteCue_holdingsPass _ _ s
  case readCue =>
    unfold takeReadCue
    split
    · exact {}
    · split <;> exact {}
  case fireCue => exact takeFireCue_holdingsPass _ s
  case readCueQueue => exact {}
  case readCueResult => unfold takeReadCueResult; split <;> exact {}
  case findRoutes =>
    unfold takeFindRoutes
    split
    · split <;> exact {}
    · exact {}
  case sweepRoutes =>
    unfold takeSweepRoutes
    split
    · split <;> exact {}
    · exact {}
  case setInput => exact takeSetInput_holdingsPass _ _ s
  case readInput => unfold takeReadInput; split <;> exact {}
  case setPrecinct => exact takeSetPrecinct_holdingsPass _ _ _ s
  case readPrecinct => unfold takeReadPrecinct; split <;> exact {}
  case setZone => exact takeSetZone_holdingsPass _ _ s
  case readZone => unfold takeReadZone; split <;> exact {}
  case zoneLive =>
    unfold takeZoneLive
    split
    · split <;> exact {}
    · exact {}
  case setGeometry => exact takeSetGeometry_holdingsPass _ _ _ s
  case readGeometry => unfold takeReadGeometry; split <;> exact {}
  case pinNotch => exact takePinNotch_holdingsPass _ _ _ _ s
  case dropNotch => exact takeDropNotch_holdingsPass _ _ s
  case readNotches => unfold takeReadNotches; split <;> exact {}
  case clearRing =>
    unfold takeClearRing
    split
    · exact {}
    · exact State.setRing_holdingsPass id
  case setEq => exact takeSetEq_holdingsPass _ _ s
  case readEq => unfold takeReadEq; split <;> exact {}
  case setClock => unfold takeSetClock; split <;> exact {}
  case readClock => exact {}
  case notices => exact {}
  case setNoticeMask => unfold takeSetNoticeMask; split <;> exact {}
  case store => unfold takeStore; split <;> exact {}
  case restart => exact {}

theorem holdingsPass_carried : Carried HoldingsPass where
  refl := .refl
  trans := .trans
  port _ _ := {}
  owner := ownerOf_holdingsPass

/-! ### The zones', the clock's and the store's events -/

theorem State.wakeExpired_holdingsPass (s : State) (z : ZoneIx) : HoldingsPass s (s.wakeExpired z) := by
  unfold State.wakeExpired
  split
  · split <;> exact {}
  all_goals exact {}

theorem State.standbyExpired_holdingsPass (s : State) (z : ZoneIx) : HoldingsPass s (s.standbyExpired z) := by
  unfold State.standbyExpired
  split <;> exact {}

theorem State.ampSettled_holdingsPass (s : State) (z : ZoneIx) : HoldingsPass s (s.ampSettled z) := by
  unfold State.ampSettled
  split
  · exact {}
  · dsimp only
    split <;> exact {}

theorem State.keySettled_holdingsPass (s : State) (k : KeyIx) : HoldingsPass s (s.keySettled k) := by
  unfold State.keySettled
  split <;> exact {}

theorem clockLost_holdingsPass (s : State) : HoldingsPass s (clockLost s) := by
  unfold clockLost
  dsimp only
  split <;> exact {}

theorem clockReturned_holdingsPass (s : State) : HoldingsPass s (clockReturned s) := by
  unfold clockReturned
  split <;> exact {}

theorem clockLock_holdingsPass (s : State) : HoldingsPass s (clockLock s) := by
  unfold clockLock
  dsimp only
  split <;> exact {}

theorem clockMove_holdingsPass (s : State) : HoldingsPass s (clockMove s) := by
  unfold clockMove
  split <;> exact {}

theorem clockMoveDue_holdingsPass (s : State) : HoldingsPass s (clockMoveDue s) := by
  unfold clockMoveDue
  split
  · exact clockMove_holdingsPass s
  · exact {}

theorem endWrite_holdingsPass (left : WorkingCopy → FlashImage) (n : Notice) (s : State) :
    HoldingsPass s (endWrite left n s) := by
  unfold endWrite
  split <;> exact {}

/-! ### The ring detector's events -/

theorem State.takeFrame_holdingsPass (s : State) (z : ZoneIx) (f : FrameCapture) :
    HoldingsPass s (s.takeFrame z f) := by
  have taken : HoldingsPass s (s.setFrame z { s.ring.frames.get z with due := none }) := {}
  refine taken.trans ?_
  unfold State.takeFrame
  dsimp only
  generalize s.setFrame z { s.ring.frames.get z with due := none } = t
  split
  · refine HoldingsPass.raiseIf (HoldingsPass.raiseIf ?_ _ _) _ _
    have answered := State.setRing_holdingsPass (s := t) (z := z) fun h =>
      Ring.frameOutcome_fixed h (s.zoneSettings z) (candidate? (s.zoneSettings z).ringThreshold (frameLevels f))
    split
    · exact answered.trans {}
    · exact answered
  · exact State.setRing_holdingsPass id

theorem State.frameResult_holdingsPass (s : State) (z : ZoneIx) : HoldingsPass s (s.frameResult z) := by
  unfold State.frameResult
  split
  · exact s.takeFrame_holdingsPass z _
  · exact {}

theorem State.endZoneFrame_holdingsPass (s : State) (z : ZoneIx) : HoldingsPass s (s.endZoneFrame z) := by
  unfold State.endZoneFrame
  split
  · exact {}
  · exact (s.frameResult_holdingsPass z).trans {}

theorem endFrame_holdingsPass (s : State) : HoldingsPass s (endFrame s) :=
  List.foldlRecOn _ _ (HoldingsPass.refl s) fun t h z _ => h.trans (t.endZoneFrame_holdingsPass z)

/-! ### A block completion -/

theorem takeHanded_engine (s : State) (hs : List Handed) : (takeHanded s hs).engine = s.engine :=
  List.foldlRecOn (motive := fun t : State => t.engine = s.engine) _ _ rfl fun _ h _ _ => h

theorem takeCue_queue (s : State) : (takeCue s).1.engine.queue = s.engine.queue.tail := by
  cases hq : s.engine.queue with
  | nil => rw [takeCue_of_empty hq, hq, List.tail_nil]
  | cons c rest =>
    rw [takeCue_of_cons hq, (applyEntries_entryActs c 0 (s.entriesOf c) (s.popped rest) (.start c)).endTake]
    rfl

theorem scanStep_queue (s : State) : (scanStep s).engine.queue = s.engine.queue := by
  unfold scanStep
  split
  · rfl
  · next sc _ =>
    have examined : (examine 16 s sc).1.engine.queue = s.engine.queue :=
      examine_induct (R := fun s t => t.engine.queue = s.engine.queue) (fun _ => rfl) (fun _ _ _ h g => g.trans h)
        (fun _ _ _ _ _ _ _ => rfl) 16 s sc
    split <;> next he => rw [he] at examined; exact examined

/-- A completion takes the oldest cue of the queue, and no other (R79). -/
theorem routeWork_queue (zonesFirst : Nat) (s : State) :
    (routeWork zonesFirst s).engine.queue = s.engine.queue.tail := by
  obtain ⟨a, handed, taken⟩ : ∃ a handed, takeCue (flipStep s) = (a, handed) := ⟨_, _, rfl⟩
  have popped := takeCue_queue (flipStep s)
  rw [taken, flipStep_engine] at popped
  rw [routeWork_eq taken, scanStep_queue, takeHanded_engine, settleStep_engine, takeHanded_engine]
  exact popped

theorem routeWork_holdingsPass (zonesFirst : Nat) (s : State) : HoldingsPass s (routeWork zonesFirst s) := by
  have only := routeWork_routeOnly zonesFirst s
  refine ⟨fun h => ?_, fun h => ?_, fun h => ?_⟩
  · rwa [only.gates, only.store]
  · rw [routeWork_queue, only.store]
    exact h.tail
  · rwa [only.store, only.ring]

theorem gateStep_holdingsPass (s : State) : HoldingsPass s (gateStep s) where
  lists h := h.worked _

theorem beginBlock_holdingsPass (s : State) : HoldingsPass s (beginBlock s) where
  installed h :=
    { h with
      ring := fun z => by
        have settled : ((beginBlock s).ring.zones.get z).notches =
            (s.ring.zones.get z).notches.map fun n => { n with fresh := false } := by
          simp [beginBlock, settleNotches]
        rw [settled]
        exact (h.ring z).map fun n hn => fixedInRange_of_same hn rfl rfl }

theorem completeBlock_holdingsPass (gateFirst : Bool) (zonesFirst : Nat) (s : State) :
    HoldingsPass s (completeBlock gateFirst zonesFirst s) := by
  unfold completeBlock
  refine HoldingsPass.trans ?_ ((clockMove_holdingsPass _).trans (beginBlock_holdingsPass _))
  split
  · exact (gateStep_holdingsPass s).trans (routeWork_holdingsPass _ _)
  · exact (routeWork_holdingsPass _ s).trans (gateStep_holdingsPass _)

/-! ### The sequences (R198, R200, R201) -/

theorem startRings_fixed {w : WorkingCopy} (h : ∀ z, storedInRange (w.notches.get z)) (blocks : Option Nat)
    (z : ZoneIx) : fixedOnesInRange ((startRings w blocks).zones.get z).notches := by
  rw [startRings, Table.get_map]
  exact (h z).startNotches

/-- The factory defaults are in range, and define cue 0 (R199). -/
theorem factoryDefaults_installed (blocks : Option Nat) :
    Installed factoryDefaults (startRings factoryDefaults blocks).zones := by
  have stored : ∀ z, storedInRange (factoryDefaults.notches.get z) := fun z k n hn => by
    simp [factoryDefaults] at hn
  refine ⟨fun i => ?_, fun p => ?_, fun z => ?_, fun st z => ?_, fun p => ?_, fun c v hv => ?_, stored,
    startRings_fixed stored blocks⟩
  · rw [factoryDefaults, Table.get_fill]
    decide
  · rw [factoryDefaults, Table.get_fill]
    decide
  · rw [factoryDefaults, Table.get_fill]
    decide
  · simp [factoryDefaults, clampDistance, clampNat]
  · rw [factoryDefaults, Table.get_fill]
    exact ⟨rfl, rfl⟩
  · simp only [factoryDefaults, Table.get_set, Table.get_fill] at hv
    split at hv <;> cases hv
    exact ⟨rfl, rfl⟩

theorem factoryDefaults_cue0 : factoryDefaults.cues.get 0 ≠ none := by
  simp [factoryDefaults]

theorem loadNotches_inRange (ns : List StoredNotch) : storedInRange (loadNotches ns) := by
  intro k n hn
  rw [loadNotches, Table.get_ofFn] at hn
  obtain ⟨m, -, rfl⟩ := Option.map_eq_some_iff.mp hn
  exact congrArg₂ (FixedNotch.mk m.bin) (clampInt_clampInt (by decide) _) (clampNat_clampNat (by decide) _)

/-- What a snapshot becomes is in range, whatever it holds (R198). -/
theorem loadSnapshot_installed (n : Snapshot) (blocks : Option Nat) :
    Installed (loadSnapshot n) (startRings (loadSnapshot n) blocks).zones := by
  have stored : ∀ z, storedInRange ((loadSnapshot n).notches.get z) := fun z => by
    rw [loadSnapshot, Table.get_map]
    exact loadNotches_inRange _
  refine ⟨fun i => ?_, fun p => ?_, fun z => ?_, fun st z => ?_, fun p => ?_, fun c v hv => ?_, stored,
    startRings_fixed stored blocks⟩
  · rw [loadSnapshot, Table.get_map]
    cases h : loadInput? (n.inputs.get i) with
    | none => decide
    | some v => exact inputEdit?_clamped h (by decide)
  · rw [loadSnapshot, Table.get_map, clampPrecinct_eq_iff]
    cases h : loadPrecinct? (n.precincts.get p) with
    | none => decide
    | some v =>
      obtain ⟨on, -, rfl⟩ := Option.map_eq_some_iff.mp h
      exact clampMaxnom_clampMaxnom _
  · rw [loadSnapshot, Table.get_map]
    obtain e | ⟨f, e⟩ := loadZone?_getD (n.zones.get z)
    · rw [e]
      decide
    · exact zoneEdit?_clamped e (by decide)
  · simp only [loadSnapshot, Table.get_map]
    exact clampNat_clampNat (by decide) _
  · rw [loadSnapshot, Table.get_map]
    cases h : acceptBands? (n.presets.get p) with
    | none => exact ⟨rfl, rfl⟩
    | some bs => exact acceptBands?_inRange h
  · rw [loadSnapshot, Table.get_map] at hv
    obtain ⟨r, -, accepted⟩ := Option.bind_eq_some_iff.mp hv
    exact acceptCue?_inRange accepted

/-- A snapshot that passes the checks defines cue 0 (R198). -/
theorem loadSnapshot_cue0 {n : Snapshot} (h : snapshotAcceptable n = true) : (loadSnapshot n).cues.get 0 ≠ none := by
  simp only [snapshotAcceptable, Bool.and_eq_true, List.all_eq_true] at h
  obtain ⟨⟨⟨-, cues⟩, first⟩, -⟩ := h
  obtain ⟨r, hr⟩ := Option.isSome_iff_exists.mp first
  have loads := cues _ (Table.mem_cells.mpr ⟨0, hr⟩)
  obtain ⟨v, hv⟩ := Option.isSome_iff_exists.mp (show (loadCue? r).isSome = true from loads)
  simp [loadSnapshot, hr, hv]

theorem loadedCopy_installed (f : FlashImage) (blocks : Option Nat) :
    Installed (loadedCopy f) (startRings (loadedCopy f) blocks).zones := by
  unfold loadedCopy
  split
  · exact loadSnapshot_installed _ _
  · exact factoryDefaults_installed _

theorem loadedCopy_cue0 (f : FlashImage) : (loadedCopy f).cues.get 0 ≠ none := by
  unfold loadedCopy
  split
  · next loads => exact loadSnapshot_cue0 (Bool.and_eq_true_iff.mp loads).2
  · exact factoryDefaults_cue0

theorem startUp_holdingsPass (s : State) : HoldingsPass s (startUp s) := by
  have started : HoldingsPass s
      { run := .running
        engine := RouteEngine.atStart
        gates := GateUnit.atStart
        power := startZones (loadedCopy s.store.flash) s.power
        ring := startRings (loadedCopy s.store.flash) (some 0)
        signal := SignalEngine.atPowerOn
        port := Port.atStart
        store := { working := loadedCopy s.store.flash, flash := s.store.flash, writing := none }
        pending := s.pending } :=
    ⟨fun _ => GateUnit.atStart_sound _ _, fun _ => .atStart (loadedCopy_cue0 _), fun _ => loadedCopy_installed _ _⟩
  exact (started.raiseIf _ _).trans {}

theorem restart_holdingsPass (s : State) : HoldingsPass s (restart s) where
  lists _ := GateUnit.atStart_sound _ _
  queue h := .atStart h.first
  installed h := { h with ring := startRings_fixed h.stored none }

theorem restartDue_holdingsPass (s : State) : HoldingsPass s (restartDue s) := by
  unfold restartDue
  split
  · exact restart_holdingsPass s
  · exact {}
  · exact {}

theorem powerDown_holdingsPass (s : State) : HoldingsPass s (powerDown s) where
  lists _ := GateUnit.atStart_sound _ _
  queue _ := ⟨Nat.zero_le _, by simp [powerDown], factoryDefaults_cue0⟩
  installed _ := factoryDefaults_installed none

/-! ### Every step (O55, O59) -/

theorem event_holdingsPass {i : Instr} {s t : State} (h : ownerOf i = none) (ht : exec i s = .next t) :
    HoldingsPass s t := by
  have walk := holdingsPass_carried
  cases i <;> cases h <;> obtain rfl := Host.Outcome.next.inj ht
  case unknownKindFrame kind body => exact walk.onFrame (walk.takeFrame kind body s)
  case byteReceived b => exact walk.whenRunning (walk.receiveByte b s)
  case gapTimeout => exact walk.whenRunning (walk.gapTimeout s)
  case answerSent => exact walk.whenRunning (walk.answerSent s)
  case blockCompletion g n => exact walk.whenRunning (completeBlock_holdingsPass g n s)
  case analysisFrameEnd => exact walk.whenRunning (endFrame_holdingsPass s)
  case frameResult zone _ => exact walk.onZone s.frameResult_holdingsPass zone
  case ampokLineChange zone ok => split <;> exact {}
  case ampStatusDebounced zone => exact walk.onZone s.ampSettled_holdingsPass zone
  case keyLineChange key on => split <;> exact {}
  case keyDebounced key =>
    split
    · exact walk.whenRunning (s.keySettled_holdingsPass _)
    · exact {}
  case wakeTimerExpiry zone => exact walk.onZone s.wakeExpired_holdingsPass zone
  case standbyTimerExpiry zone => exact walk.onZone s.standbyExpired_holdingsPass zone
  case houseClockLost => exact walk.whenRunning (clockLost_holdingsPass s)
  case houseClockReturned => exact walk.whenRunning (clockReturned_holdingsPass s)
  case houseClockLock => exact walk.whenRunning (clockLock_holdingsPass s)
  case houseClockMove => exact walk.whenRunning (clockMoveDue_holdingsPass s)
  case storeWriteDone => exact walk.whenRunning (endWrite_holdingsPass _ _ s)
  case storeWriteFailed left => exact walk.whenRunning (endWrite_holdingsPass _ _ s)
  case storeStageTimeout left => exact walk.whenRunning (endWrite_holdingsPass _ _ s)
  case rstLLow => exact {}
  case powerLoss => exact powerDown_holdingsPass s
  case startUpSequence =>
    split
    · exact startUp_holdingsPass s
    · exact startUp_holdingsPass s
    · exact {}
  case restartSequence => exact walk.whenRunning (restartDue_holdingsPass s)
  case samplePeriod ain => exact walk.whenRunning {}

theorem step_holdingsPass {s t : State} (h : step s = .next t) : HoldingsPass s t :=
  holdingsPass_carried.step (fun _ _ => {}) event_holdingsPass h

/-- Settles O55: the gate unit's operations close and admit whole members, and only FIRE-CUE and a start-up lengthen the
queue. -/
theorem listsAndQueueKept : Obligations.ListsAndQueueKept := by
  unfold Obligations.ListsAndQueueKept
  intro s t h
  have pass := step_holdingsPass h
  rw [openListsTrue_iff, openListsTrue_iff, queueOfDefinedCues_iff, queueOfDefinedCues_iff]
  exact ⟨pass.lists, pass.queue⟩

/-- Settles O59: a place of the working copy changes by its owning request's clamped record, or by a start-up's load. -/
theorem installationKeptInRange : Obligations.InstallationKeptInRange := by
  unfold Obligations.InstallationKeptInRange
  intro s t h
  rw [installationInRange_iff, installationInRange_iff]
  exact (step_holdingsPass h).installed

end Sys2Proof.Machine

namespace Sys2Proof.Machine
open Sys2Proof.Safety

/-! ## Lines and debounces (O28) -/

/-- A line of a running part takes its level; a departure from the debounced value is counted on from where its count
stands (R129). -/
theorem Line.setRaw_eq (level : Bool) (l : Line) :
    l.setRaw level =
      { raw := level, settled := l.settled
        count := if level = l.settled then none else some (l.count.getD 0) } := by
  unfold Line.setRaw
  cases l.count <;> rfl

theorem lineLevel_running {r : RunState} (h : r = .running) (level : Bool) (l : Line) :
    lineLevel r level l = l.setRaw level := by
  rw [h]
  rfl

theorem lineLevel_stopped {r : RunState} (h : r ≠ .running) (level : Bool) (l : Line) :
    lineLevel r level l = { l with raw := level, count := none } := by
  cases r with
  | running => exact absurd rfl h
  | off => rfl
  | held => rfl

theorem Line.debounced_eq_true {l : Line} {time : Nat} :
    l.debounced time = true ↔ ∃ n, l.count = some n ∧ time ≤ n := by
  unfold Line.debounced
  cases l.count <;> simp

theorem Line.debounced_eq_false {l : Line} {time : Nat} :
    l.debounced time = false ↔ ∀ n, l.count = some n → n < time := by
  unfold Line.debounced
  cases l.count <;> simp

theorem execAmpokLineChange_zone (s : State) (z : ZoneIx) (ok : Bool) :
    exec (.ampokLineChange (z.1 + 1) ok) s = .next (s.setAmp z (lineLevel s.run ok (s.power.amps.get z))) := by
  show execAmpokLineChange (z.1 + 1) ok s = _
  rw [execAmpokLineChange, number?_succ]

theorem execKeyLineChange_key (s : State) (k : KeyIx) (on : Bool) :
    exec (.keyLineChange (k.1 + 1) on) s = .next (s.setKey k (lineLevel s.run on (s.power.keys.get k))) := by
  show execKeyLineChange (k.1 + 1) on s = _
  rw [execKeyLineChange, number?_succ]

theorem execAmpStatusDebounced_zone {s : State} (h : s.run = .running) (z : ZoneIx) :
    exec (.ampStatusDebounced (z.1 + 1)) s = .next (s.ampSettled z) :=
  congrArg Host.Outcome.next (onZone_running h z _)

theorem execKeyDebounced_key {s : State} (h : s.run = .running) (k : KeyIx) :
    exec (.keyDebounced (k.1 + 1)) s = .next (s.keySettled k) := by
  show execKeyDebounced (k.1 + 1) s = _
  rw [execKeyDebounced, number?_succ]
  exact congrArg Host.Outcome.next (whenRunning_running h _)

/-- Before its time a debounce changes nothing (R129). -/
theorem State.ampSettled_early {s : State} {z : ZoneIx} (h : (s.power.amps.get z).debounced ampDebounce = false) :
    s.ampSettled z = s := by
  rw [State.ampSettled, h]

theorem State.keySettled_early {s : State} {k : KeyIx} (h : (s.power.keys.get k).debounced keyDebounce = false) :
    s.keySettled k = s := by
  rw [State.keySettled, h]

@[simp] theorem State.setAmp_zoneLive (s : State) (y z : ZoneIx) (l : Line) :
    (s.setAmp y l).zoneLive z = s.zoneLive z := rfl

@[simp] theorem Line.settle_settled (l : Line) : l.settle.settled = l.raw := rfl

section AmpSettled

variable {s : State} {z : ZoneIx} (due : (s.power.amps.get z).debounced ampDebounce = true)

include due

/-- A change to FAULT of a zone whose amplifier is enabled (R137). -/
theorem State.ampSettled_faults (power : (s.zoneLive z).power = .waking ∨ (s.zoneLive z).power = .active)
    (raw : (s.power.amps.get z).raw = false) :
    s.ampSettled z = (s.setAmp z (s.power.amps.get z).settle).enterFault z := by
  rcases power with power | power <;> simp [State.ampSettled, due, power, raw]

/-- A change to OK of a zone in FAULT (R137, R139). -/
theorem State.ampSettled_recovers (power : (s.zoneLive z).power = .fault) (raw : (s.power.amps.get z).raw = true) :
    s.ampSettled z = (s.setAmp z (s.power.amps.get z).settle).enterStandby z := by
  simp [State.ampSettled, due, power, raw]

/-- In every other case the status is recorded (R137). -/
theorem State.ampSettled_recorded
    (other : (s.zoneLive z).power = .absent ∨ (s.zoneLive z).power = .standby
      ∨ ((s.zoneLive z).power = .fault ∧ (s.power.amps.get z).raw = false)
      ∨ ((s.zoneLive z).power ≠ .fault ∧ (s.power.amps.get z).raw = true)) :
    s.ampSettled z = s.setAmp z (s.power.amps.get z).settle := by
  rcases other with power | power | ⟨power, raw⟩ | ⟨power, raw⟩
  · simp [State.ampSettled, due, power]
  · simp [State.ampSettled, due, power]
  · simp [State.ampSettled, due, power, raw]
  · cases hp : (s.zoneLive z).power with
    | fault => exact absurd hp power
    | _ => simp [State.ampSettled, due, hp, raw]

end AmpSettled

theorem State.keySettled_due {s : State} {k : KeyIx} (due : (s.power.keys.get k).debounced keyDebounce = true) :
    s.keySettled k = (s.setKey k (s.power.keys.get k).settle).takeKey k (s.power.keys.get k).raw := by
  rw [State.keySettled, due]
  rfl

/-- The zones whose record names a key take its level, the others do not (R128). -/
theorem State.takeKey_zoneLive (s : State) (k : KeyIx) (on : Bool) (z : ZoneIx) :
    (s.takeKey k on).zoneLive z =
      if (s.zoneSettings z).key = some k then
        ({ s.zoneLive z with keyLive := on } : ZoneLive).refreshLive (s.zoneSettings z)
      else s.zoneLive z :=
  Table.get_zipWith _ _ _ _

/-- Settles O28: a raw level is taken by whether the part runs; a debounce before its time does nothing, and after it
acts by the zone's power state, or on the zones that name the key. -/
theorem linesDebouncedAndTaken : Obligations.LinesDebouncedAndTaken := by
  unfold Obligations.LinesDebouncedAndTaken
  refine ⟨fun s => ⟨?_, ?_⟩, fun s hr => ⟨fun z early => ?_, fun k early => ?_, ?_, ?_⟩⟩
  · rintro z ok _ rfl
    refine ⟨fun hr => ?_, fun hr => ?_⟩
    · rw [execAmpokLineChange_zone, lineLevel_running hr, Line.setRaw_eq]
      rfl
    · rw [execAmpokLineChange_zone, lineLevel_stopped hr]
      rfl
  · rintro k on _ rfl
    refine ⟨fun hr => ?_, fun hr => ?_⟩
    · rw [execKeyLineChange_key, lineLevel_running hr, Line.setRaw_eq]
      rfl
    · rw [execKeyLineChange_key, lineLevel_stopped hr]
      rfl
  · rw [execAmpStatusDebounced_zone hr, State.ampSettled_early (Line.debounced_eq_false.mpr early)]
  · rw [execKeyDebounced_key hr, State.keySettled_early (Line.debounced_eq_false.mpr early)]
  · rintro z n _ count late rfl
    have due : (s.power.amps.get z).debounced ampDebounce = true := Line.debounced_eq_true.mpr ⟨n, count, late⟩
    rw [execAmpStatusDebounced_zone hr]
    refine ⟨fun power raw => ?_, fun power raw => ?_, fun other => ?_⟩
    · rw [State.ampSettled_faults due power raw]
      rfl
    · rw [State.ampSettled_recovers due power raw]
      exact ⟨_, rfl, rfl⟩
    · rw [State.ampSettled_recorded due other]
      rfl
  · intro k n count late
    have due : (s.power.keys.get k).debounced keyDebounce = true := Line.debounced_eq_true.mpr ⟨n, count, late⟩
    rw [execKeyDebounced_key hr, State.keySettled_due due]
    exact ⟨_, rfl, rfl, State.takeKey_zoneLive _ k _, rfl⟩

end Sys2Proof.Machine

namespace Sys2Proof.Machine
open Sys2Proof.Safety

/-! ## The zones' rules, zone by zone (O56) -/

/-- The zone controller's rules for one live record, under the zone's settings, the reading of its key and its demand
count. -/
structure ZoneLive.Sound (v : ZoneSettings) (reading : Bool) (demand : Nat) (l : ZoneLive) : Prop where
  enable : enableTrue l
  timer : timerTrue v l
  live : liveTrue v l
  key : l.keyLive = reading
  demand : l.demandPresent = true ↔ 0 < demand

/-- The rules for one zone of a state. -/
def State.ZoneSound (s : State) (z : ZoneIx) : Prop :=
  (s.zoneLive z).Sound (s.zoneSettings z) (s.keyReading (s.zoneSettings z).key) (s.engine.demand.get z)

theorem zonesTrue_iff (s : State) : ZonesTrue s ↔ ∀ z, s.ZoneSound z :=
  forall_congr' fun _ =>
    ⟨fun ⟨enable, timer, live, key, demand⟩ => ⟨enable, timer, live, key, demand⟩,
      fun h => ⟨h.enable, h.timer, h.live, h.key, h.demand⟩⟩

/-! ### The timer that a power state calls for (R133, R135) -/

theorem timerTrue_waking (v : ZoneSettings) {l : ZoneLive} (power : l.power = .waking) :
    timerTrue v l ↔ ∃ n, l.timer = .wake n := by
  unfold timerTrue
  rw [power]
  cases l.timer <;> simp

theorem timerTrue_active (v : ZoneSettings) {l : ZoneLive} (power : l.power = .active) :
    timerTrue v l ↔
      if l.demandPresent = true ∨ v.standbyDelay = 0 then l.timer = .none else ∃ n, l.timer = .standby n := by
  unfold timerTrue
  rw [power]
  cases l.timer <;> cases l.demandPresent <;> simp

theorem timerTrue_idle (v : ZoneSettings) {l : ZoneLive} (waking : l.power ≠ .waking) (active : l.power ≠ .active) :
    timerTrue v l ↔ l.timer = .none := by
  unfold timerTrue
  cases hp : l.power with
  | waking => exact absurd hp waking
  | active => exact absurd hp active
  | _ => cases l.timer <;> simp

/-- A standby timer started afresh, or none where demand is present, is the one that ACTIVE calls for (R135). -/
theorem timerTrue_started (v : ZoneSettings) {l : ZoneLive} (power : l.power = .active)
    (timer : l.timer = if l.demandPresent then .none else standbyTimer v.standbyDelay) : timerTrue v l := by
  rw [timerTrue_active v power, timer]
  cases l.demandPresent with
  | true => simp
  | false => by_cases h : v.standbyDelay = 0 <;> simp [standbyTimer, h]

/-- The timer is judged by the standby delay of the settings, and by nothing else of them; away from ACTIVE not even by
that, nor by the demand-present mark. -/
theorem timerTrue_congr {v w : ZoneSettings} {l m : ZoneLive} (power : m.power = l.power) (timer : m.timer = l.timer)
    (same : l.power ≠ .active ∨ m.demandPresent = l.demandPresent ∧ w.standbyDelay = v.standbyDelay) :
    timerTrue v l → timerTrue w m := by
  cases hp : l.power with
  | active =>
    obtain ⟨demand, delay⟩ := same.resolve_left fun h => h hp
    rw [timerTrue_active v hp, timerTrue_active w (power.trans hp), timer, demand, delay]
    exact id
  | waking =>
    rw [timerTrue_waking v hp, timerTrue_waking w (power.trans hp), timer]
    exact id
  | _ =>
    rw [timerTrue_idle v (by simp [hp]) (by simp [hp]), timerTrue_idle w (by simp [power, hp]) (by simp [power, hp]),
      timer]
    exact id

/-- A timer that runs goes on running as the sample periods pass. -/
theorem timerTrue_tick {v : ZoneSettings} {l : ZoneLive} (h : timerTrue v l) :
    timerTrue v { l with timer := ZoneTimer.tick l.timer } := by
  obtain ⟨power, _, _, _, _, _, timer⟩ := l
  cases timer with
  | none => exact h
  | wake n => cases power <;> exact h
  | standby n => cases power <;> exact h

/-- A changed standby delay restarts, starts or stops the timer of an ACTIVE zone as the new delay calls for (R146). -/
theorem timerTrue_retime {old new : ZoneSettings} {l : ZoneLive} (h : timerTrue old l) :
    timerTrue new (retime old new l) := by
  by_cases power : l.power = .active
  · by_cases reached : retimed old new l
    · rw [retime_of_retimed reached]
      refine timerTrue_started new power ?_
      have absent : l.demandPresent = false := by
        obtain ⟨-, -, ⟨n, runs⟩ | ⟨-, absent, -⟩⟩ := reached
        · rw [timerTrue_active old power, runs] at h
          by_contra present
          simp [present] at h
        · exact absent
      simp [absent]
    · rw [retime_of_not_retimed reached]
      by_cases delay : old.standbyDelay = new.standbyDelay
      · exact timerTrue_congr rfl rfl (.inr ⟨rfl, delay.symm⟩) h
      · rw [timerTrue_active old power] at h
        rw [timerTrue_active new power]
        cases demand : l.demandPresent with
        | true => simpa [demand] using h
        | false =>
          refine absurd ⟨power, delay, ?_⟩ reached
          by_cases zero : old.standbyDelay = 0
          · exact .inr ⟨by simpa [zero] using h, demand, zero⟩
          · exact .inl (by simpa [demand, zero] using h)
  · rw [retime_of_not_retimed fun reached => power reached.1]
    exact timerTrue_congr rfl rfl (.inl power) h

end Sys2Proof.Machine
namespace Sys2Proof.Machine
open Sys2Proof.Safety

/-! ### What the zone controller's acts leave of the rules -/

section Acts

variable {v : ZoneSettings} {reading : Bool} {demand : Nat} {l : ZoneLive} (h : l.Sound v reading demand)

include h

/-- A zone that wakes has its enable asserted and its wake timer running (R133). -/
theorem ZoneLive.Sound.waking (n : Nat) :
    ({ l with power := .waking, ampEnabled := true, timer := .wake n } : ZoneLive).Sound v reading demand :=
  { h with
    enable := by simp [enableTrue]
    timer := (timerTrue_waking v rfl).mpr ⟨n, rfl⟩ }

/-- A zone at the end of its wake keeps its enable, and its standby timer starts unless demand is present (R134). -/
theorem ZoneLive.Sound.active (power : l.power = .waking) :
    ({ l with
        power := .active
        timer := if l.demandPresent then .none else standbyTimer v.standbyDelay } : ZoneLive).Sound v reading demand :=
  { h with
    enable := by simp [enableTrue, h.enable.mpr (.inl power)]
    timer := timerTrue_started v rfl rfl }

/-- A zone that rests, or is in FAULT, has its enable released and no timer (R135, R138, R200). -/
theorem ZoneLive.Sound.released {p : PowerState} (idle : p = .standby ∨ p = .fault) :
    ({ l with power := p, ampEnabled := false, timer := .none } : ZoneLive).Sound v reading demand := by
  obtain ⟨waking, active⟩ : p ≠ .waking ∧ p ≠ .active := by rcases idle with rfl | rfl <;> decide
  exact { h with
          enable := by simp [enableTrue, waking, active]
          timer := (timerTrue_idle v waking active).mpr rfl }

/-- The controller's switch, with the live condition worked out afresh (R85, R130). -/
theorem ZoneLive.Sound.switched (on : Bool) :
    (({ l with controllerLive := on } : ZoneLive).refreshLive v).Sound v reading demand :=
  { h with live := rfl, timer := timerTrue_congr rfl rfl (.inr ⟨rfl, rfl⟩) h.timer }

/-- A key's new level, with the live condition worked out afresh (R128). -/
theorem ZoneLive.Sound.keyed (on : Bool) :
    (({ l with keyLive := on } : ZoneLive).refreshLive v).Sound v on demand :=
  { h with live := rfl, key := rfl, timer := timerTrue_congr rfl rfl (.inr ⟨rfl, rfl⟩) h.timer }

theorem ZoneLive.Sound.ticked :
    ({ l with timer := ZoneTimer.tick l.timer } : ZoneLive).Sound v reading demand :=
  { h with timer := timerTrue_tick h.timer }

/-- New settings, with the key read afresh, the live condition worked out and the timer as a new delay calls for
(R145, R146). -/
theorem ZoneLive.Sound.edited (new : ZoneSettings) (on : Bool) :
    (retime v new (({ l with keyLive := on } : ZoneLive).refreshLive new)).Sound new on demand := by
  obtain ⟨timer, e⟩ : ∃ timer, retime v new (({ l with keyLive := on } : ZoneLive).refreshLive new) =
      { ({ l with keyLive := on } : ZoneLive).refreshLive new with timer := timer } := by
    by_cases reached : retimed v new (({ l with keyLive := on } : ZoneLive).refreshLive new)
    · exact ⟨_, retime_of_retimed reached⟩
    · exact ⟨_, retime_of_not_retimed reached⟩
  have timed : timerTrue new (retime v new (({ l with keyLive := on } : ZoneLive).refreshLive new)) :=
    timerTrue_retime (timerTrue_congr rfl rfl (.inr ⟨rfl, rfl⟩) h.timer)
  rw [e] at timed ⊢
  exact { h with timer := timed, live := rfl, key := rfl }

/-- What the zone controller is told of the demand becomes its mark, and moves power and timer as that calls for
(R132). -/
theorem ZoneLive.Sound.told {present : Bool} {counted : Nat} (mark : present = true ↔ 0 < counted) :
    (l.told v present).Sound v reading counted := by
  have marked (power : l.power ≠ .active) :
      ({ l with demandPresent := present } : ZoneLive).Sound v reading counted :=
    { h with demand := mark, timer := timerTrue_congr (l := l) rfl rfl (.inl power) h.timer }
  have timed (power : l.power = .active) :
      ({ l with
          demandPresent := present
          timer := if present then .none else standbyTimer v.standbyDelay } : ZoneLive).Sound v reading counted :=
    { h with demand := mark, timer := timerTrue_started v power rfl }
  cases power : l.power with
  | active =>
    have sound := timed power
    cases present <;> simpa [ZoneLive.told, power, standbyTimer_eq] using sound
  | standby =>
    have sound := marked (by simp [power])
    cases present with
    | true => simpa [ZoneLive.told, power] using sound.waking (4800 * v.wakeTime)
    | false => simpa [ZoneLive.told, power] using sound
  | _ => simpa [ZoneLive.told, power] using marked (by simp [power])

/-- A count that stays on its side of zero leaves the mark true; one that crosses it is told (R41). -/
theorem ZoneLive.Sound.counted (new : Nat) : (l.counted v demand new).Sound v reading new := by
  unfold ZoneLive.counted
  split
  · next rises => exact h.told (by simp [rises.2])
  · next stays =>
    split
    · next falls => exact h.told (by simp [falls.2])
    · next holds => exact { h with demand := h.demand.trans (by omega) }

end Acts

/-- A zone as a start-up sets it up follows the rules: no demand, and key-live as the sampled key reads (R141). -/
theorem startZone_sound (keys : Table Line 16) (v : ZoneSettings) (amp : Line) :
    (startZone keys v amp).Sound v (startZone keys v amp).keyLive 0 where
  enable := by cases h : amp.raw <;> simp [enableTrue, startZone, h]
  timer := by cases h : amp.raw <;> simp [timerTrue, startZone, h]
  live := by simp [liveTrue, startZone]
  key := rfl
  demand := by simp [startZone]

/-! ### The laws from one state to another -/

/-- A zone's listen set holds its home precinct (R126). -/
def State.HomeListened (s : State) (z : ZoneIx) : Prop :=
  listens (s.zoneSettings z).listen (s.zoneSettings z).home = true

/-- Zone by zone the two laws pass from `s` to `t`. -/
structure ZonesPass (s t : State) : Prop where
  zone : ∀ z, s.ZoneSound z → t.ZoneSound z
  home : ∀ z, s.HomeListened z → t.HomeListened z

/-- What a zone reads of its key is the debounced level of the key it names (R128). -/
theorem State.keyReading_congr {s t : State}
    (settled : ∀ k, (t.power.keys.get k).settled = (s.power.keys.get k).settled) (key : Option KeyIx) :
    t.keyReading key = s.keyReading key := by
  cases key with
  | none => rfl
  | some k => exact settled k

/-- The laws speak of the zones' live records, the debounced key levels, the demand counts and the zones' settings. -/
theorem ZonesPass.of_settled {s t : State} (zones : t.power.zones = s.power.zones)
    (settled : ∀ k, (t.power.keys.get k).settled = (s.power.keys.get k).settled)
    (demand : t.engine.demand = s.engine.demand) (settings : t.store.working.zones = s.store.working.zones) :
    ZonesPass s t := by
  have settings (z : ZoneIx) : t.zoneSettings z = s.zoneSettings z := congrArg (Table.get · z) settings
  refine ⟨fun z h => ?_, fun z h => ?_⟩
  · rw [State.ZoneSound, State.zoneLive, zones, settings, State.keyReading_congr settled, demand]
    exact h
  · rw [State.HomeListened, settings]
    exact h

theorem ZonesPass.same {s t : State} (power : t.power = s.power) (demand : t.engine.demand = s.engine.demand)
    (settings : t.store.working.zones = s.store.working.zones) : ZonesPass s t :=
  .of_settled (congrArg ZoneController.zones power) (fun k => by rw [power]) demand settings

theorem ZonesPass.refl (s : State) : ZonesPass s s :=
  .same rfl rfl rfl

theorem ZonesPass.trans {s t u : State} (h : ZonesPass s t) (g : ZonesPass t u) : ZonesPass s u :=
  ⟨fun z => g.zone z ∘ h.zone z, fun z => g.home z ∘ h.home z⟩

theorem ZonesPass.raiseIf {s t : State} (h : ZonesPass s t) (c : Bool) (n : Notice) : ZonesPass s (t.raiseIf c n) := by
  cases c
  · exact h
  · exact h.trans (.same rfl rfl rfl)

/-- The live record of one zone is replaced by another that follows the rules if the first did. -/
theorem State.setZoneLive_zonesPass {s : State} {z : ZoneIx} {l : ZoneLive}
    (h : s.ZoneSound z →
      l.Sound (s.zoneSettings z) (s.keyReading (s.zoneSettings z).key) (s.engine.demand.get z)) :
    ZonesPass s (s.setZoneLive z l) where
  home _ := id
  zone y sound := by
    show ((s.setZoneLive z l).zoneLive y).Sound (s.zoneSettings y) (s.keyReading (s.zoneSettings y).key)
      (s.engine.demand.get y)
    rw [State.setZoneLive_zoneLive]
    split
    · next e =>
      subst e
      exact h sound
    · exact sound

/-! ### The zones' events -/

theorem State.enterWaking_zonesPass (s : State) (z : ZoneIx) : ZonesPass s (s.enterWaking z) :=
  (State.setZoneLive_zonesPass fun h => h.waking _).trans (.same rfl rfl rfl)

theorem State.enterActive_zonesPass {s : State} {z : ZoneIx} (power : (s.zoneLive z).power = .waking) :
    ZonesPass s (s.enterActive z) :=
  (State.setZoneLive_zonesPass fun h => h.active power).trans (.same rfl rfl rfl)

theorem State.enterStandby_zonesPass (s : State) (z : ZoneIx) : ZonesPass s (s.enterStandby z) :=
  (State.setZoneLive_zonesPass fun h => h.released (.inl rfl)).trans (.same rfl rfl rfl)

theorem State.enterFault_zonesPass (s : State) (z : ZoneIx) : ZonesPass s (s.enterFault z) :=
  (State.setZoneLive_zonesPass fun h => h.released (.inr rfl)).trans (.same rfl rfl rfl)

theorem State.setControllerLive_zonesPass (s : State) (z : ZoneIx) (on : Bool) :
    ZonesPass s (s.setControllerLive z on) :=
  State.setZoneLive_zonesPass fun h => h.switched on

theorem State.wakeExpired_zonesPass (s : State) (z : ZoneIx) : ZonesPass s (s.wakeExpired z) := by
  unfold State.wakeExpired
  cases power : (s.zoneLive z).power with
  | waking =>
    have woken : ZonesPass s (if (s.power.amps.get z).settled then s.enterActive z else s.enterFault z) := by
      split
      · exact State.enterActive_zonesPass power
      · exact s.enterFault_zonesPass z
    cases (s.zoneLive z).timer with
    | wake n => exact woken
    | _ => exact .same rfl rfl rfl
  | _ => exact .same rfl rfl rfl

theorem State.standbyExpired_zonesPass (s : State) (z : ZoneIx) : ZonesPass s (s.standbyExpired z) := by
  unfold State.standbyExpired
  cases (s.zoneLive z).power with
  | active =>
    cases (s.zoneLive z).timer with
    | standby n => exact s.enterStandby_zonesPass z
    | _ => exact .same rfl rfl rfl
  | _ => exact .same rfl rfl rfl

/-- The amplifier lines are no part of the laws (R131). -/
theorem State.setAmp_zonesPass (s : State) (z : ZoneIx) (l : Line) : ZonesPass s (s.setAmp z l) :=
  .of_settled rfl (fun _ => rfl) rfl rfl

theorem State.ampSettled_zonesPass (s : State) (z : ZoneIx) : ZonesPass s (s.ampSettled z) := by
  unfold State.ampSettled
  split
  · exact .same rfl rfl rfl
  · refine (s.setAmp_zonesPass z (s.power.amps.get z).settle).trans ?_
    dsimp only
    split
    · exact State.enterFault_zonesPass _ z
    · exact State.enterFault_zonesPass _ z
    · exact State.enterStandby_zonesPass _ z
    all_goals exact .same rfl rfl rfl

theorem State.setKey_keyReading (s : State) (k : KeyIx) (l : Line) (key : Option KeyIx) :
    (s.setKey k l).keyReading key = if key = some k then l.settled else s.keyReading key := by
  cases key with
  | none => rfl
  | some j =>
    simp only [State.keyReading, State.setKey, Table.get_set, Option.some.injEq, eq_comm (a := j)]
    split <;> rfl

theorem lineLevel_settled (r : RunState) (level : Bool) (l : Line) : (lineLevel r level l).settled = l.settled := by
  cases r <;> rfl

theorem State.setKey_zonesPass {s : State} {k : KeyIx} {l : Line}
    (settled : l.settled = (s.power.keys.get k).settled) : ZonesPass s (s.setKey k l) := by
  refine .of_settled rfl (fun j => ?_) rfl rfl
  rw [State.setKey, Table.get_set]
  split
  · next e => rw [settled, e]
  · rfl

/-- A settled key and every zone that names it change as one (R128). -/
theorem State.keySettled_zonesPass (s : State) (k : KeyIx) : ZonesPass s (s.keySettled k) := by
  cases due : (s.power.keys.get k).debounced keyDebounce with
  | false =>
    rw [State.keySettled_early due]
    exact .same rfl rfl rfl
  | true =>
    rw [State.keySettled_due due]
    refine ⟨fun z h => ?_, fun _ => id⟩
    have reading := s.setKey_keyReading k (s.power.keys.get k).settle (s.zoneSettings z).key
    have live : ((s.setKey k (s.power.keys.get k).settle).takeKey k (s.power.keys.get k).raw).zoneLive z =
        if (s.zoneSettings z).key = some k then
          ({ s.zoneLive z with keyLive := (s.power.keys.get k).raw } : ZoneLive).refreshLive (s.zoneSettings z)
        else s.zoneLive z := State.takeKey_zoneLive _ k _ z
    show ZoneLive.Sound _ ((s.setKey k (s.power.keys.get k).settle).keyReading (s.zoneSettings z).key) _ _
    rw [reading, live]
    split
    · exact h.keyed _
    · exact h

/-! ### The requests (R85, R130, R144) -/

theorem listens_withPrecinct (set : BitVec 4) (p : PrecinctIx) : listens (withPrecinct set p) p = true := by
  simp [listens, withPrecinct]

/-- A SET-ZONE adds the home precinct to the listen set it stores (R126). -/
theorem zoneEdit?_home {f : ZoneFields} {v new : ZoneSettings} (h : zoneEdit? f v = some new) :
    listens new.listen new.home = true := by
  unfold zoneEdit? at h
  split at h
  · obtain rfl := Option.some.inj h
    exact listens_withPrecinct _ _
  · exact absurd h (by simp)

theorem State.editZone_zonesPass {s : State} {z : ZoneIx} {f : ZoneFields} {new : ZoneSettings}
    (edit : zoneEdit? f (s.zoneSettings z) = some new) : ZonesPass s (s.editZone z new) := by
  have frame := s.editZone_frame z new
  have settings (y : ZoneIx) : (s.editZone z new).zoneSettings y = if z = y then new else s.zoneSettings y := by
    rw [State.zoneSettings, State.editZone_store]
    exact Table.get_set _ _ _ _
  have demand : (s.editZone z new).engine.demand = s.engine.demand := by rw [frame]
  have reading (key : Option KeyIx) : (s.editZone z new).keyReading key = s.keyReading key := by rw [frame]; rfl
  refine ⟨fun y h => ?_, fun y h => ?_⟩
  · rw [State.ZoneSound, State.zoneLive, State.editZone_zones, Table.get_set, reading, demand, settings]
    split
    · next e =>
      subst e
      have read : (if (s.zoneSettings z).key = new.key then s.zoneLive z
          else { s.zoneLive z with keyLive := s.keyReading new.key }) =
          { s.zoneLive z with keyLive := s.keyReading new.key } := by
        split
        · next same => rw [← same, ← h.key]
        · rfl
      rw [read]
      exact h.edited new _
    · exact h
  · rw [State.HomeListened, settings]
    split
    · exact zoneEdit?_home edit
    · exact h

theorem takeSetZone_zonesPass (zone : Nat) (f : ZoneFields) (s : State) : ZonesPass s (takeSetZone zone f s).1 := by
  unfold takeSetZone
  cases number? 24 zone with
  | none => exact .same rfl rfl rfl
  | some z =>
    dsimp only
    cases edit : zoneEdit? f (s.zoneSettings z) with
    | none => exact .same rfl rfl rfl
    | some new => exact State.editZone_zonesPass edit

theorem takeZoneLive_zonesPass (zone setting : Nat) (s : State) : ZonesPass s (takeZoneLive zone setting s).1 := by
  unfold takeZoneLive
  split
  · split
    · exact .same rfl rfl rfl
    · exact s.setControllerLive_zonesPass _ _
  · exact .same rfl rfl rfl

theorem takeSetInput_zonesPass (input : Nat) (f : InputFields) (s : State) :
    ZonesPass s (takeSetInput input f s).1 := by
  unfold takeSetInput
  split
  · exact .same rfl rfl rfl
  · split
    · exact .same rfl rfl rfl
    · dsimp only [State.editInput]
      split <;> exact .same rfl rfl rfl

theorem onRoute_zonesPass {act : SlotIx → Route → State → State × Reply} {s : State}
    (h : ∀ k r, ZonesPass s (act k r s).1) (name : RouteName) : ZonesPass s (onRoute name act s).1 := by
  unfold onRoute
  split
  · exact h _ _
  · exact .same rfl rfl rfl

/-- Of the owners only those of SET-ZONE and ZONE-LIVE touch what the laws speak of; in each branch of another it is as
it was. -/
theorem ownerOf_zonesPass {i : Instr} {owner : State → State × Reply} (h : ownerOf i = some owner) (s : State) :
    ZonesPass s (owner s).1 := by
  cases i <;> cases h
  case placeRoute => unfold takePlaceRoute; (repeat' split) <;> exact .same rfl rfl rfl
  case readRoute => exact onRoute_zonesPass (fun _ _ => .same rfl rfl rfl) _
  case retireRoute => exact onRoute_zonesPass (fun _ _ => by split <;> exact .same rfl rfl rfl) _
  case stageRoute =>
    unfold takeStageRoute
    split
    · exact onRoute_zonesPass (fun _ _ => by (repeat' split) <;> exact .same rfl rfl rfl) _
    · exact .same rfl rfl rfl
  case armRoute => exact onRoute_zonesPass (fun _ _ => by (repeat' split) <;> exact .same rfl rfl rfl) _
  case haltRoute => exact onRoute_zonesPass (fun _ _ => by split <;> exact .same rfl rfl rfl) _
  case clearRoute => exact onRoute_zonesPass (fun _ _ => by split <;> exact .same rfl rfl rfl) _
  case writeCue => unfold takeWriteCue; (repeat' split) <;> exact .same rfl rfl rfl
  case readCue => unfold takeReadCue; (repeat' split) <;> exact .same rfl rfl rfl
  case fireCue => unfold takeFireCue; (repeat' split) <;> exact .same rfl rfl rfl
  case readCueQueue => exact .same rfl rfl rfl
  case readCueResult => unfold takeReadCueResult; split <;> exact .same rfl rfl rfl
  case findRoutes => unfold takeFindRoutes; (repeat' split) <;> exact .same rfl rfl rfl
  case sweepRoutes => unfold takeSweepRoutes; (repeat' split) <;> exact .same rfl rfl rfl
  case setInput => exact takeSetInput_zonesPass _ _ s
  case readInput => unfold takeReadInput; split <;> exact .same rfl rfl rfl
  case setPrecinct => unfold takeSetPrecinct; split <;> exact .same rfl rfl rfl
  case readPrecinct => unfold takeReadPrecinct; split <;> exact .same rfl rfl rfl
  case setZone => exact takeSetZone_zonesPass _ _ s
  case readZone => unfold takeReadZone; split <;> exact .same rfl rfl rfl
  case zoneLive => exact takeZoneLive_zonesPass _ _ s
  case setGeometry => unfold takeSetGeometry; split <;> exact .same rfl rfl rfl
  case readGeometry => unfold takeReadGeometry; split <;> exact .same rfl rfl rfl
  case pinNotch => unfold takePinNotch; (repeat' split) <;> exact .same rfl rfl rfl
  case dropNotch => unfold takeDropNotch; (repeat' split) <;> exact .same rfl rfl rfl
  case readNotches => unfold takeReadNotches; split <;> exact .same rfl rfl rfl
  case clearRing => unfold takeClearRing; split <;> exact .same rfl rfl rfl
  case setEq => unfold takeSetEq; split <;> exact .same rfl rfl rfl
  case readEq => unfold takeReadEq; split <;> exact .same rfl rfl rfl
  case setClock => unfold takeSetClock; split <;> exact .same rfl rfl rfl
  case readClock => exact .same rfl rfl rfl
  case notices => exact .same rfl rfl rfl
  case setNoticeMask => unfold takeSetNoticeMask; split <;> exact .same rfl rfl rfl
  case store => unfold takeStore; split <;> exact .same rfl rfl rfl
  case restart => exact .same rfl rfl rfl

theorem zonesPass_carried : Carried ZonesPass where
  refl := .refl
  trans := .trans
  port _ _ := .same rfl rfl rfl
  owner := ownerOf_zonesPass

end Sys2Proof.Machine

namespace Sys2Proof.Machine
open Sys2Proof.Safety

/-! ### A block completion (R27) -/

theorem takeCue_zonesPass (s : State) : ZonesPass s (takeCue s).1 := by
  cases hq : s.engine.queue with
  | nil =>
    rw [takeCue_of_empty hq]
    exact .same rfl rfl rfl
  | cons c rest =>
    rw [takeCue_of_cons hq, (applyEntries_entryActs c 0 (s.entriesOf c) (s.popped rest) (.start c)).endTake]
    exact .same rfl rfl rfl

theorem takeHanded_zonesPass (s : State) (hs : List Handed) : ZonesPass s (takeHanded s hs) :=
  List.foldlRecOn _ _ (ZonesPass.refl s) fun t h e _ => h.trans (t.setControllerLive_zonesPass e.1 e.2)

theorem State.takeCount_keys (s : State) (z : ZoneIx) (old new : Nat) :
    (s.takeCount z old new).power.keys = s.power.keys := by
  unfold State.takeCount
  rw [State.takeDemand_eq, State.takeDemand_eq]
  split_ifs <;> simp [State.setZoneLive]

theorem settleStep_keys (s : State) : (settleStep s).power.keys = s.power.keys :=
  List.foldlRecOn (motive := fun u : State => u.power.keys = s.power.keys) _ _ rfl fun u h z _ =>
    (u.takeCount_keys z _ _).trans h

/-- The demand counts change, and every zone takes its own (R40, R41, R132). -/
theorem settleStep_zonesPass (s : State) : ZonesPass s (settleStep s) := by
  have settings := State.zoneSettings_of_routeOnly (settleStep_routeOnly s)
  have reading : (settleStep s).keyReading = s.keyReading :=
    funext (State.keyReading_congr fun k => by rw [settleStep_keys])
  refine ⟨fun z h => ?_, fun z h => by rwa [State.HomeListened, settings]⟩
  rw [State.ZoneSound, settleStep_zoneLive, settings, reading, settleStep_engine]
  exact h.counted _

theorem scanStep_zonesPass (s : State) : ZonesPass s (scanStep s) := by
  unfold scanStep
  cases s.engine.scan with
  | none => exact .same rfl rfl rfl
  | some sc =>
    have examined : ZonesPass s (examine 16 s sc).1 :=
      examine_induct .refl (fun _ _ _ => .trans) (fun _ _ _ _ _ _ _ => .same rfl rfl rfl) 16 s sc
    dsimp only
    rcases he : examine 16 s sc with ⟨t, sc', verdict⟩
    rw [he] at examined
    cases verdict <;> exact examined.trans (.same rfl rfl rfl)

theorem routeWork_zonesPass (zonesFirst : Nat) (s : State) : ZonesPass s (routeWork zonesFirst s) :=
  have flipped : ZonesPass s (flipStep s) :=
    .same (flipStep_power s) (by rw [flipStep_engine]) (by rw [(flipStep_routeOnly s).store])
  flipped.trans <| (takeCue_zonesPass _).trans <| (takeHanded_zonesPass _ _).trans <|
    (settleStep_zonesPass _).trans <| (takeHanded_zonesPass _ _).trans (scanStep_zonesPass _)

theorem clockMove_zonesPass (s : State) : ZonesPass s (clockMove s) := by
  unfold clockMove
  split <;> exact .same rfl rfl rfl

theorem completeBlock_zonesPass (gateFirst : Bool) (zonesFirst : Nat) (s : State) :
    ZonesPass s (completeBlock gateFirst zonesFirst s) := by
  have gated (u : State) : ZonesPass u (gateStep u) := .same rfl rfl rfl
  have begun (u : State) : ZonesPass u (beginBlock u) := .same rfl rfl rfl
  unfold completeBlock
  refine ZonesPass.trans ?_ ((clockMove_zonesPass _).trans (begun _))
  split
  · exact (gated s).trans (routeWork_zonesPass _ _)
  · exact (routeWork_zonesPass _ s).trans (gated _)

/-! ### The other blocks' events -/

/-- A frame result touches the ring detector, the zone's routes and the notices alone (R153). -/
theorem State.frameResult_zonesPass (s : State) (z : ZoneIx) : ZonesPass s (s.frameResult z) := by
  cases due : (s.ring.frames.get z).due with
  | none =>
    rw [State.frameResult_none due]
    exact .same rfl rfl rfl
  | some f =>
    rw [State.frameResult_some due]
    unfold State.takeFrame
    dsimp only
    split
    · refine ZonesPass.raiseIf (ZonesPass.raiseIf ?_ _ _) _ _
      split <;> exact .same rfl rfl rfl
    · exact .same rfl rfl rfl

theorem State.endZoneFrame_zonesPass (s : State) (z : ZoneIx) : ZonesPass s (s.endZoneFrame z) := by
  unfold State.endZoneFrame
  cases (s.ring.frames.get z).ended with
  | nil => exact .same rfl rfl rfl
  | cons f rest => exact (s.frameResult_zonesPass z).trans (.same rfl rfl rfl)

theorem endFrame_zonesPass (s : State) : ZonesPass s (endFrame s) :=
  List.foldlRecOn _ _ (ZonesPass.refl s) fun t h z _ => h.trans (t.endZoneFrame_zonesPass z)

theorem samplePeriod_zonesPass (xs : Table SampleWord 32) (s : State) : ZonesPass s (samplePeriod xs s) where
  home _ := id
  zone z h := by
    have reading : (samplePeriod xs s).keyReading (s.zoneSettings z).key = s.keyReading (s.zoneSettings z).key :=
      State.keyReading_congr (fun k => by simp [samplePeriod, tickTimers, Line.tick]) _
    show ZoneLive.Sound _ ((samplePeriod xs s).keyReading (s.zoneSettings z).key) _ _
    rw [reading, samplePeriod_zoneLive]
    exact h.ticked

theorem endWrite_zonesPass (left : WorkingCopy → FlashImage) (n : Notice) (s : State) :
    ZonesPass s (endWrite left n s) := by
  unfold endWrite
  cases s.store.writing <;> exact .same rfl rfl rfl

/-! ### The sequences (R141, R198, R200, R201) -/

/-- While RST_L is low every zone rests; its key is read as before. -/
theorem hold_zonesPass (s : State) : ZonesPass s (hold s) where
  home _ := id
  zone z h := by
    have reading : (hold s).keyReading (s.zoneSettings z).key = s.keyReading (s.zoneSettings z).key :=
      State.keyReading_congr (fun k => by simp [hold]) _
    have live : (hold s).zoneLive z = holdZone (s.zoneLive z) := Table.get_map _ _ _
    show ZoneLive.Sound _ ((hold s).keyReading (s.zoneSettings z).key) _ _
    rw [reading, live]
    exact h.released (.inl rfl)

/-- A part whose zones have just been set up, with no demand, has the rules (R141). -/
theorem State.zoneSound_of_startZones {t : State} {p : ZoneController}
    (power : t.power = startZones t.store.working p) (demand : t.engine.demand = RouteEngine.atStart.demand)
    (z : ZoneIx) : t.ZoneSound z := by
  have live : t.zoneLive z = startZone p.keys (t.zoneSettings z) (p.amps.get z) := by
    rw [State.zoneLive, power]
    exact Table.get_zipWith _ _ _ _
  have reading : t.keyReading (t.zoneSettings z).key =
      (startZone p.keys (t.zoneSettings z) (p.amps.get z)).keyLive := by
    unfold State.keyReading
    rw [power]
    cases key : (t.zoneSettings z).key <;> simp [startZone, startZones, Line.sample, key]
  have none : t.engine.demand.get z = 0 := by rw [demand]; exact Table.get_fill _ _
  rw [State.ZoneSound, live, reading, none]
  exact startZone_sound _ _ _

/-- A listen set that a start-up loads holds its home precinct (R126, R198). -/
theorem loadedCopy_home (f : FlashImage) (z : ZoneIx) :
    listens ((loadedCopy f).zones.get z).listen ((loadedCopy f).zones.get z).home = true := by
  have factory : listens factoryZone.listen factoryZone.home = true := by decide
  unfold loadedCopy
  split
  · rw [loadSnapshot, Table.get_map]
    obtain e | ⟨_, e⟩ := loadZone?_getD (f.snapshot.zones.get z)
    · rwa [e]
    · exact zoneEdit?_home e
  · rwa [factoryDefaults, Table.get_fill]

theorem startUp_zonesPass (s : State) : ZonesPass s (startUp s) := by
  have started : ZonesPass s
      { run := .running
        engine := RouteEngine.atStart
        gates := GateUnit.atStart
        power := startZones (loadedCopy s.store.flash) s.power
        ring := startRings (loadedCopy s.store.flash) (some 0)
        signal := SignalEngine.atPowerOn
        port := Port.atStart
        store := { working := loadedCopy s.store.flash, flash := s.store.flash, writing := none }
        pending := s.pending } :=
    ⟨fun z _ => State.zoneSound_of_startZones rfl rfl z, fun z _ => loadedCopy_home _ z⟩
  exact (started.raiseIf _ _).trans (.same rfl rfl rfl)

theorem restartDue_zonesPass (s : State) : ZonesPass s (restartDue s) := by
  unfold restartDue
  cases s.port.restart with
  | due => exact ⟨fun z _ => State.zoneSound_of_startZones (p := s.power) rfl rfl z, fun _ => id⟩
  | _ => exact .same rfl rfl rfl

/-- Without power every zone rests on the factory defaults, which name no key (R199). -/
theorem powerDown_zonesPass (s : State) : ZonesPass s (powerDown s) := by
  have settings (z : ZoneIx) : (powerDown s).zoneSettings z = factoryZone := Table.get_fill _ _
  have live (z : ZoneIx) : (powerDown s).zoneLive z = ZoneLive.resting := Table.get_fill _ _
  have demand (z : ZoneIx) : (powerDown s).engine.demand.get z = 0 := Table.get_fill _ _
  refine ⟨fun z _ => ?_, fun z _ => by rw [State.HomeListened, settings]; decide⟩
  rw [State.ZoneSound, settings, live, demand]
  exact
    { enable := by simp [enableTrue, ZoneLive.resting]
      timer := trivial
      live := rfl
      key := rfl
      demand := by simp [ZoneLive.resting] }

/-! ### Every step (O56) -/

theorem event_zonesPass {i : Instr} {s t : State} (h : ownerOf i = none) (ht : exec i s = .next t) : ZonesPass s t := by
  have walk := zonesPass_carried
  cases i <;> cases h <;> obtain rfl := Host.Outcome.next.inj ht
  case unknownKindFrame kind body => exact walk.onFrame (walk.takeFrame kind body s)
  case byteReceived b => exact walk.whenRunning (walk.receiveByte b s)
  case gapTimeout => exact walk.whenRunning (walk.gapTimeout s)
  case answerSent => exact walk.whenRunning (walk.answerSent s)
  case blockCompletion g n => exact walk.whenRunning (completeBlock_zonesPass g n s)
  case analysisFrameEnd => exact walk.whenRunning (endFrame_zonesPass s)
  case frameResult zone _ => exact walk.onZone s.frameResult_zonesPass zone
  case ampokLineChange zone ok =>
    split
    · exact s.setAmp_zonesPass _ _
    · exact .same rfl rfl rfl
  case ampStatusDebounced zone => exact walk.onZone s.ampSettled_zonesPass zone
  case keyLineChange key on =>
    split
    · exact State.setKey_zonesPass (lineLevel_settled _ _ _)
    · exact .same rfl rfl rfl
  case keyDebounced key =>
    split
    · exact walk.whenRunning (s.keySettled_zonesPass _)
    · exact .same rfl rfl rfl
  case wakeTimerExpiry zone => exact walk.onZone s.wakeExpired_zonesPass zone
  case standbyTimerExpiry zone => exact walk.onZone s.standbyExpired_zonesPass zone
  case houseClockLost => exact walk.whenRunning (by
    unfold clockLost
    cases s.signal.clock.present <;> cases s.signal.clock.status <;> exact .same rfl rfl rfl)
  case houseClockReturned => exact walk.whenRunning (by unfold clockReturned; split <;> exact .same rfl rfl rfl)
  case houseClockLock => exact walk.whenRunning (by
    unfold clockLock
    cases s.signal.clock.present <;> cases s.signal.clock.status <;> exact .same rfl rfl rfl)
  case houseClockMove => exact walk.whenRunning (by
    unfold clockMoveDue
    split
    · exact clockMove_zonesPass s
    · exact .same rfl rfl rfl)
  case storeWriteDone => exact walk.whenRunning (endWrite_zonesPass _ _ s)
  case storeWriteFailed left => exact walk.whenRunning (endWrite_zonesPass _ _ s)
  case storeStageTimeout left => exact walk.whenRunning (endWrite_zonesPass _ _ s)
  case rstLLow => exact hold_zonesPass s
  case powerLoss => exact powerDown_zonesPass s
  case startUpSequence =>
    split
    · exact startUp_zonesPass s
    · exact startUp_zonesPass s
    · exact .same rfl rfl rfl
  case restartSequence => exact walk.whenRunning (restartDue_zonesPass s)
  case samplePeriod ain => exact walk.whenRunning (samplePeriod_zonesPass _ s)

theorem step_zonesPass {s t : State} (h : step s = .next t) : ZonesPass s t :=
  zonesPass_carried.step (fun _ _ => .same rfl rfl rfl) event_zonesPass h

/-- Settles O56: zone by zone, what changes a power state sets the enable and the timer that go with it, and what
changes an input of a mark works the mark out afresh. -/
theorem zoneLawsKept : Obligations.ZoneLawsKept := by
  unfold Obligations.ZoneLawsKept
  intro s t h
  have pass := step_zonesPass h
  rw [zonesTrue_iff, zonesTrue_iff]
  exact ⟨fun sound z => pass.zone z (sound z), fun homes z => pass.home z (homes z)⟩

end Sys2Proof.Machine

namespace Sys2Proof.Machine
open Sys2Proof.Safety

/-! ## Notch lists (R150, R156, R161) -/

theorem Notch.covers_eq_true {n : Notch} {b : Nat} : n.covers b = true ↔ n.bin ≤ b + 1 ∧ b ≤ n.bin + 1 := by
  simp only [Notch.covers, Bool.or_eq_true, decide_eq_true_eq]
  omega

theorem Notch.covers_eq_false {n : Notch} {b : Nat} : n.covers b = false ↔ n.bin + 1 < b ∨ b + 1 < n.bin := by
  rw [Bool.eq_false_iff, Ne, Notch.covers_eq_true]
  omega

theorem Notch.isDynamic_eq_true {n : Notch} : n.isDynamic = true ↔ n.kind = .dynamic := by
  unfold Notch.isDynamic
  cases n.kind <;> simp

theorem Notch.isDynamic_eq_false {n : Notch} : n.isDynamic = false ↔ n.kind ≠ .dynamic := by
  rw [Bool.eq_false_iff, Ne, Notch.isDynamic_eq_true]

theorem Notch.stored_eq_some {n : Notch} {f : FixedNotch} :
    n.stored = some f ↔ n.kind = .fixed f.width ∧ n.bin = f.bin ∧ n.depth = f.depth := by
  cases f
  unfold Notch.stored
  cases n.kind with
  | fixed w => simp; tauto
  | dynamic => simp

theorem Notch.stored_eq_none {n : Notch} : n.stored = none ↔ n.kind = .dynamic := by
  unfold Notch.stored
  cases n.kind <;> simp

/-! ### One notch of a list, where no two share a slot -/

section Middle

variable {before after : List Notch} {n : Notch} (once : ((before ++ n :: after).map Notch.slot).Nodup)

include once

theorem slot_ne_of_middle {m : Notch} (hm : m ∈ before ++ after) : m.slot ≠ n.slot := by
  rw [List.map_append, List.map_cons, List.nodup_middle, List.nodup_cons, ← List.map_append] at once
  exact fun e => once.1 (e ▸ List.mem_map_of_mem hm)

theorem removeSlot_middle : removeSlot n.slot (before ++ n :: after) = before ++ after := by
  have others : (before ++ after).filter (fun m => m.slot ≠ n.slot) = before ++ after :=
    List.filter_eq_self.mpr fun m hm => decide_eq_true (slot_ne_of_middle once hm)
  rw [removeSlot, List.filter_append, List.filter_cons_of_neg (by simp), ← List.filter_append, others]

theorem mapSlot_middle (f : Notch → Notch) :
    mapSlot n.slot f (before ++ n :: after) = before ++ f n :: after := by
  have others {ms : List Notch} (sub : ∀ m ∈ ms, m ∈ before ++ after) :
      ms.map (fun m => if m.slot = n.slot then f m else m) = ms :=
    (List.map_congr_left fun m hm => if_neg (slot_ne_of_middle once (sub m hm))).trans (List.map_id' ms)
  rw [mapSlot, List.map_append, List.map_cons, if_pos rfl, others fun m => List.mem_append_left _,
    others fun m => List.mem_append_right _]

end Middle

/-! ### Room for a new notch (R156, R161) -/

theorem mem_freeSlots {ns : List Notch} {k : NotchIx} : k ∈ freeSlots ns ↔ ∀ m ∈ ns, m.slot ≠ k := by
  simp [freeSlots]

/-- The free slots stand lowest first. -/
theorem freeSlots_lowest {ns : List Notch} {k : NotchIx} (free : ∀ m ∈ ns, m.slot ≠ k)
    (taken : ∀ j, j < k → ∃ m ∈ ns, m.slot = j) : ∃ rest, freeSlots ns = k :: rest := by
  have sorted : (freeSlots ns).Pairwise (· < ·) := (List.pairwise_lt_finRange 8).filter _
  cases h : freeSlots ns with
  | nil => exact absurd (h ▸ mem_freeSlots.mpr free) List.not_mem_nil
  | cons j rest =>
    rw [h] at sorted
    have jfree : ∀ m ∈ ns, m.slot ≠ j := mem_freeSlots.mp (h ▸ List.mem_cons_self)
    have low : ¬ j < k := fun hj => let ⟨m, hm, e⟩ := taken j hj; jfree m hm e
    rcases List.mem_cons.mp (h ▸ mem_freeSlots.mpr free : k ∈ j :: rest) with rfl | later
    · exact ⟨rest, rfl⟩
    · exact absurd ((List.pairwise_cons.mp sorted).1 k later) low

theorem roomFor_free {ns : List Notch} {k : NotchIx} (free : ∀ m ∈ ns, m.slot ≠ k)
    (taken : ∀ j, j < k → ∃ m ∈ ns, m.slot = j) : roomFor ns = some (k, ns) := by
  obtain ⟨rest, h⟩ := freeSlots_lowest free taken
  simp [roomFor, h]

theorem freeSlots_full {ns : List Notch} (full : ∀ k : NotchIx, ∃ m ∈ ns, m.slot = k) : freeSlots ns = [] :=
  List.eq_nil_iff_forall_not_mem.mpr fun k hk => let ⟨m, hm, e⟩ := full k; mem_freeSlots.mp hk m hm e

/-- Where every slot is taken the earliest DYNAMIC notch leaves. -/
theorem roomFor_dynamic {before after : List Notch} {n : Notch}
    (once : ((before ++ n :: after).map Notch.slot).Nodup)
    (full : ∀ k : NotchIx, ∃ m ∈ before ++ n :: after, m.slot = k) (dynamic : n.kind = .dynamic)
    (first : ∀ m ∈ before, m.kind ≠ .dynamic) :
    roomFor (before ++ n :: after) = some (n.slot, before ++ after) := by
  have found : (before ++ n :: after).find? Notch.isDynamic = some n :=
    List.find?_eq_some_iff_append.mpr ⟨Notch.isDynamic_eq_true.mpr dynamic, before, after, rfl, fun m hm => by
      simp [Notch.isDynamic_eq_false.mpr (first m hm)]⟩
  simp [roomFor, freeSlots_full full, found, removeSlot_middle once]

theorem roomFor_fixed {ns : List Notch} (full : ∀ k : NotchIx, ∃ m ∈ ns, m.slot = k)
    (fixed : ∀ m ∈ ns, m.kind ≠ .dynamic) : roomFor ns = none := by
  have missed : ns.find? Notch.isDynamic = none :=
    List.find?_eq_none.mpr fun m hm => by simp [Notch.isDynamic_eq_false.mpr (fixed m hm)]
  simp [roomFor, freeSlots_full full, missed]

/-- Room is a slot that no notch of the list stands in, or that of a DYNAMIC notch, which leaves. -/
theorem roomFor_cases {ns ms : List Notch} {k : NotchIx} (room : roomFor ns = some (k, ms)) :
    (ms = ns ∧ ∀ m ∈ ns, m.slot ≠ k) ∨ ∃ n ∈ ns, n.kind = .dynamic ∧ k = n.slot ∧ ms = removeSlot n.slot ns := by
  unfold roomFor at room
  split at room <;> cases room
  · next h => exact .inl ⟨rfl, mem_freeSlots.mp (h ▸ List.mem_cons_self)⟩
  · next h =>
    exact .inr ⟨_, List.mem_of_find?_eq_some h, Notch.isDynamic_eq_true.mp (List.find?_some h), rfl, rfl⟩

/-! ### A pin (R161) -/

/-- A pin over a notch that covers the bin makes it FIXED where it stands; any other that covers the bin leaves. -/
theorem pinIn_covering {before after : List Notch} {n : Notch} {b : Nat} (d : Int) (w : Nat)
    (once : ((before ++ n :: after).map Notch.slot).Nodup) (covers : n.covers b = true)
    (first : ∀ m ∈ before, m.covers b = false) :
    pinIn (before ++ n :: after) b d w =
      some (before ++ pinned b d w n.fresh n.slot :: after.filter (fun m => !m.covers b), n.slot) := by
  have covering : (before ++ n :: after).filter (Notch.covers b) = n :: after.filter (Notch.covers b) := by
    have before_empty : before.filter (Notch.covers b) = [] :=
      List.filter_eq_nil_iff.mpr fun m hm => by simp [first m hm]
    rw [List.filter_append, before_empty, List.filter_cons_of_pos covers, List.nil_append]
  have leaves {m : Notch} (hm : m ∈ before ++ n :: after) :
      ((after.filter (Notch.covers b)).any fun o => o.slot = m.slot) = true ↔ m ∈ after ∧ m.covers b = true := by
    rw [List.any_eq_true]
    constructor
    · rintro ⟨o, ho, slot⟩
      obtain ⟨mem, cov⟩ := List.mem_filter.mp ho
      have same : o = m := List.inj_on_of_nodup_map once (by simp [mem]) hm (of_decide_eq_true slot)
      exact same ▸ ⟨mem, cov⟩
    · exact fun ⟨mem, cov⟩ => ⟨m, List.mem_filter.mpr ⟨mem, cov⟩, decide_eq_true rfl⟩
  have kept : (before ++ n :: after).filter (fun m => !(after.filter (Notch.covers b)).any fun o => o.slot = m.slot) =
      before ++ n :: after.filter (fun m => !m.covers b) := by
    rw [List.filter_append, List.filter_cons_of_pos]
    · congr 1
      · refine List.filter_eq_self.mpr fun m hm => ?_
        rw [Bool.not_eq_true', Bool.eq_false_iff, Ne, leaves (List.mem_append_left _ hm), first m hm]
        simp
      · refine congrArg (n :: ·) (List.filter_congr fun m hm => ?_)
        rw [Bool.not_inj_iff, Bool.eq_iff_iff, leaves (by simp [hm]), and_iff_right hm]
    · rw [Bool.not_eq_true', Bool.eq_false_iff, Ne, leaves (by simp)]
      exact fun h => slot_ne_of_middle once (List.mem_append_right _ h.1) rfl
  have once' : ((before ++ n :: after.filter (fun m => !m.covers b)).map Notch.slot).Nodup :=
    once.sublist (((List.Sublist.refl _).append (List.filter_sublist.cons_cons n)).map _)
  unfold pinIn
  rw [covering]
  dsimp only
  rw [kept]
  exact congrArg (fun ms => some (ms, n.slot)) (mapSlot_middle once' fun m => pinned b d w m.fresh m.slot)

theorem pinIn_uncovered {ns : List Notch} {b : Nat} (uncovered : ∀ m ∈ ns, m.covers b = false) (d : Int) (w : Nat) :
    pinIn ns b d w = (roomFor ns).map fun room => (room.2 ++ [pinned b d w true room.1], room.1) := by
  have covering : ns.filter (Notch.covers b) = [] := List.filter_eq_nil_iff.mpr fun m hm => by simp [uncovered m hm]
  unfold pinIn
  rw [covering]
  dsimp only
  cases roomFor ns <;> rfl

/-! ### The working copy's FIXED notches (R150) -/

/-- A slot of the working copy holds what the FIXED notch in that slot of the list has. -/
theorem storedNotches_get {ns : List Notch} (once : (ns.map Notch.slot).Nodup) (j : NotchIx) (f : FixedNotch) :
    (storedNotches ns).get j = some f ↔ ∃ m ∈ ns, m.slot = j ∧ m.stored = some f := by
  rw [storedNotches, Table.get_ofFn, Option.bind_eq_some_iff]
  simp only [find?_slot_eq_some once, and_assoc]

theorem State.setNotches_ringOf (s : State) (y z : ZoneIx) (ns : List Notch) :
    (s.setNotches z ns).ringOf y = if z = y then { s.ringOf z with notches := ns } else s.ringOf y :=
  s.setRing_ringOf y z _

theorem State.setNotches_stored (s : State) (y z : ZoneIx) (ns : List Notch) :
    (s.setNotches z ns).store.working.notches.get y =
      if z = y then storedNotches ns else s.store.working.notches.get y :=
  Table.get_set _ z y _

/-- What a change of a zone's notch list leaves: the list, the working copy's FIXED notches, and all else. -/
theorem State.setNotches_spec (s : State) (z : ZoneIx) {ns : List Notch} (once : (ns.map Notch.slot).Nodup) :
    (s.setNotches z ns).ringOf z = { s.ringOf z with notches := ns }
    ∧ (∀ y, y ≠ z → (s.setNotches z ns).ringOf y = s.ringOf y
        ∧ (s.setNotches z ns).store.working.notches.get y = s.store.working.notches.get y)
    ∧ (∀ j fixed, ((s.setNotches z ns).store.working.notches.get z).get j = some fixed ↔
        ∃ m, m ∈ ns ∧ m.slot = j ∧ m.kind = .fixed fixed.width ∧ m.bin = fixed.bin ∧ m.depth = fixed.depth)
    ∧ s.setNotches z ns =
        { s with
          ring := { s.ring with zones := (s.setNotches z ns).ring.zones }
          store :=
            { s.store with
              working := { s.store.working with notches := (s.setNotches z ns).store.working.notches } } } := by
  refine ⟨(s.setNotches_ringOf z z ns).trans (if_pos rfl), fun y hy => ⟨?_, ?_⟩, fun j fixed => ?_, rfl⟩
  · exact (s.setNotches_ringOf y z ns).trans (if_neg hy.symm)
  · exact (s.setNotches_stored y z ns).trans (if_neg hy.symm)
  · rw [State.setNotches_stored, if_pos rfl, storedNotches_get once]
    simp only [Notch.stored_eq_some]

/-! ### PIN-NOTCH (O30) -/

theorem takePinNotch_range {n b : Nat} {d : Int} {w : Nat} (h : outside 24 n ∨ b < 4 ∨ 511 < b) (s : State) :
    takePinNotch n b d w s = (s, plain .range) := by
  unfold takePinNotch
  cases hz : number? 24 n with
  | none => rfl
  | some z =>
    refine if_pos (h.resolve_left fun out => ?_)
    simp [number?_outside out] at hz

theorem pinStatus_eq (d : Int) (w : Nat) :
    okStatus (clampChanges clampNotchDepth (some d) || clampChanges clampNotchWidth (some w)) =
      if d < 12 ∨ 72 < d ∨ w < 1 ∨ 10 < w then .clamped else .ok := by
  unfold okStatus
  refine if_congr ?_ rfl rfl
  rw [Bool.or_eq_true, clampChanges_some, clampChanges_some, clampNotchDepth, clampNotchWidth,
    clampInt_ne (by decide), clampNat_ne (by decide), or_assoc]

section Pin

variable {s : State} {z : ZoneIx} {b : Nat} (low : 4 ≤ b) (high : b ≤ 511) (d : Int) (w : Nat)

include low high

theorem takePinNotch_some {ns : List Notch} {k : NotchIx}
    (pin : pinIn (s.ringOf z).notches b (clampNotchDepth d) (clampNotchWidth w) = some (ns, k)) :
    takePinNotch (z.1 + 1) b d w s =
      (s.setNotches z ns,
        some (if d < 12 ∨ 72 < d ∨ w < 1 ∨ 10 < w then .clamped else .ok, [BitVec.ofNat 8 k.1])) := by
  have inside : ¬(b < 4 ∨ 511 < b) := by omega
  rw [← pinStatus_eq]
  simp only [takePinNotch, number?_succ, if_neg inside, pin]
  rfl

theorem takePinNotch_none (pin : pinIn (s.ringOf z).notches b (clampNotchDepth d) (clampNotchWidth w) = none) :
    takePinNotch (z.1 + 1) b d w s = (s, plain .full) := by
  have inside : ¬(b < 4 ∨ 511 < b) := by omega
  simp only [takePinNotch, number?_succ, if_neg inside, pin]

end Pin

/-- Settles O30: by the places of R161, each an equation of `pinIn`, then what `setNotches` leaves. -/
theorem pinNotchPlacesFixed : Obligations.PinNotchPlacesFixed := by
  unfold Obligations.PinNotchPlacesFixed
  refine ⟨fun s hs => ⟨fun n b d w h => exec_answered hs rfl (takePinNotch_range h s), ?_⟩, ?_⟩
  · rintro z b d w low high once status made rfl rfl
    refine ⟨fun before n after split covers first => ?_, fun uncovered => ⟨fun k free taken => ?_,
      fun full => ⟨fun before n after split dynamic first => ?_, fun fixed => ?_⟩⟩⟩
    · rw [split] at once
      have pin := pinIn_covering (clampNotchDepth d) (clampNotchWidth w) once covers first
      exact exec_answered hs rfl (takePinNotch_some low high d w (split ▸ pin))
    · have pin := pinIn_uncovered uncovered (clampNotchDepth d) (clampNotchWidth w)
      rw [roomFor_free free taken] at pin
      exact exec_answered hs rfl (takePinNotch_some low high d w pin)
    · have pin := pinIn_uncovered uncovered (clampNotchDepth d) (clampNotchWidth w)
      rw [split] at once full
      rw [show roomFor (s.ringOf z).notches = _ from split ▸ roomFor_dynamic once full dynamic first] at pin
      exact exec_answered hs rfl (takePinNotch_some low high d w pin)
    · have pin := pinIn_uncovered uncovered (clampNotchDepth d) (clampNotchWidth w)
      rw [roomFor_fixed full fixed] at pin
      exact exec_answered hs rfl (takePinNotch_none low high d w pin)
  · rintro s t z ns once rfl
    exact s.setNotches_spec z once

/-! ### DROP-NOTCH and CLEAR-RING (O31) -/

theorem takeDropNotch_range {n k : Nat} (h : outside 24 n ∨ 7 < k) (s : State) :
    takeDropNotch n k s = (s, plain .range) := by
  unfold takeDropNotch
  split
  · next z j hz hk =>
    rcases h with h | h
    · simp [number?_outside h] at hz
    · simp [index?_outside (n := 8) h] at hk
  · rfl

theorem takeDropNotch_empty {s : State} {z : ZoneIx} {k : NotchIx} (h : ∀ m ∈ (s.ringOf z).notches, m.slot ≠ k) :
    takeDropNotch (z.1 + 1) k.1 s = (s, plain .ok) := by
  have empty : ((s.ringOf z).notches.any fun n => n.slot = k) = false :=
    List.any_eq_false.mpr fun m hm => by simp [h m hm]
  simp [takeDropNotch, empty]

theorem takeDropNotch_held {s : State} {z : ZoneIx} {n : Notch} (h : n ∈ (s.ringOf z).notches) :
    takeDropNotch (z.1 + 1) n.slot.1 s =
      (s.setNotches z (removeSlot n.slot (s.ringOf z).notches), plain .ok) := by
  have held : ((s.ringOf z).notches.any fun m => m.slot = n.slot) = true := List.any_eq_true.mpr ⟨n, h, by simp⟩
  simp [takeDropNotch, held]

theorem takeClearRing_range {n : Nat} (h : outside 24 n) (s : State) : takeClearRing n s = (s, plain .range) := by
  simp [takeClearRing, number?_outside h]

theorem takeClearRing_zone (s : State) (z : ZoneIx) :
    takeClearRing (z.1 + 1) s = (s.setRing z (s.ringOf z).cleared, plain .ok) := by
  simp [takeClearRing]

/-- Settles O31: the slot is empty, or its notch leaves the list as any change of the list does; CLEAR-RING by its
owner's one equation. -/
theorem dropNotchAndClearRing : Obligations.DropNotchAndClearRing := by
  unfold Obligations.DropNotchAndClearRing
  intro s hs
  refine ⟨fun n k h => exec_answered hs rfl (takeDropNotch_range h s),
    fun n h => exec_answered hs rfl (takeClearRing_range h s), fun z => ⟨fun k =>
      ⟨fun h => exec_answered hs rfl (takeDropNotch_empty h), ?_⟩, exec_answered hs rfl (takeClearRing_zone s z)⟩⟩
  rintro before n after split rfl once
  have dropped := exec_answered (i := .dropNotch (z.1 + 1) n.slot.1) hs rfl
    (takeDropNotch_held (s := s) (z := z) (n := n) (by simp [split]))
  rw [split] at once
  rw [split, removeSlot_middle once] at dropped
  have once' : ((before ++ after).map Notch.slot).Nodup :=
    once.sublist (((List.Sublist.refl _).append (List.sublist_cons_self n after)).map _)
  exact ⟨_, dropped, s.setNotches_spec z once'⟩

end Sys2Proof.Machine

namespace Sys2Proof.Machine
open Sys2Proof.Safety

/-! ## The frame's candidate (R153) -/

/-- Place `k` of a list holds its highest level, and no lower place does. -/
structure IsPeak (levels : List Int) (k : Nat) : Prop where
  inside : k < levels.length
  highest : ∀ j, j < levels.length → levels.getD j 0 ≤ levels.getD k 0
  lowest : ∀ j, j < k → levels.getD j 0 < levels.getD k 0

theorem IsPeak.unique {levels : List Int} {j k : Nat} (hj : IsPeak levels j) (hk : IsPeak levels k) : j = k := by
  rcases lt_trichotomy j k with h | h | h
  · exact absurd (hk.lowest j h) (not_lt.mpr (hj.highest k hk.inside))
  · exact h
  · exact absurd (hj.lowest k h) (not_lt.mpr (hk.highest j hj.inside))

theorem IsPeak.head {x : Int} {xs : List Int} (h : ∀ j, j < xs.length → xs.getD j 0 ≤ x) : IsPeak (x :: xs) 0 where
  inside := Nat.succ_pos _
  highest j hj := by
    cases j with
    | zero => exact le_rfl
    | succ j => exact h j (Nat.lt_of_succ_lt_succ hj)
  lowest j hj := absurd hj (Nat.not_lt_zero j)

theorem IsPeak.tail {x : Int} {xs : List Int} {k : Nat} (peak : IsPeak xs k) (h : x < xs.getD k 0) :
    IsPeak (x :: xs) (k + 1) where
  inside := Nat.succ_lt_succ peak.inside
  highest j hj := by
    cases j with
    | zero => exact h.le
    | succ j => exact peak.highest j (Nat.lt_of_succ_lt_succ hj)
  lowest j hj := by
    cases j with
    | zero => exact h
    | succ j => exact peak.lowest j (Nat.lt_of_succ_lt_succ hj)

/-- The search finds the peak of the levels. -/
theorem highestBin_isPeak (b : Nat) {levels : List Int} (h : levels ≠ []) :
    ∃ k, IsPeak levels k ∧ highestBin b levels = some (b + k, levels.getD k 0) := by
  induction levels generalizing b with
  | nil => exact absurd rfl h
  | cons x xs ih =>
    rcases eq_or_ne xs [] with rfl | more
    · exact ⟨0, .head fun j hj => absurd hj (Nat.not_lt_zero j), rfl⟩
    · obtain ⟨k, peak, found⟩ := ih (b + 1) more
      simp only [highestBin, found]
      split
      · next above => exact ⟨k + 1, peak.tail above, by rw [List.getD_cons_succ]; congr 2; omega⟩
      · next below => exact ⟨0, .head fun j hj => (peak.highest j hj).trans (not_lt.mp below), rfl⟩

/-- The candidate is the bin of the peak, where that stands out (R153). -/
theorem candidate?_eq_some {threshold : Int} {levels : List Int} (h : levels ≠ []) {b : Nat} :
    candidate? threshold levels = some b ↔
      4 ≤ b ∧ IsPeak levels (b - 4) ∧ threshold ≤ levels.getD (b - 4) 0 - meanLevel levels
        ∧ -240 ≤ levels.getD (b - 4) 0 := by
  obtain ⟨k, peak, found⟩ := highestBin_isPeak 4 h
  simp only [candidate?, found, Option.ite_none_right_eq_some, Option.some.injEq]
  constructor
  · rintro ⟨stands, rfl⟩
    rw [Nat.add_sub_cancel_left]
    exact ⟨Nat.le_add_right 4 k, peak, stands⟩
  · rintro ⟨low, peak', stands⟩
    obtain rfl : k = b - 4 := peak.unique peak'
    exact ⟨stands, Nat.add_sub_cancel' low⟩

/-- A frame's candidate is one of the bins 4..511. -/
theorem candidate?_range {threshold : Int} {f : FrameCapture} {b : Nat}
    (h : candidate? threshold (frameLevels f) = some b) : 4 ≤ b ∧ b ≤ 511 := by
  have length := frameLevels_length f
  have levels : frameLevels f ≠ [] := fun e => by simp [e] at length
  obtain ⟨low, peak, -⟩ := (candidate?_eq_some levels).mp h
  have inside := peak.inside
  omega

/-- Settles O32: the candidate is the bin of the one peak (`candidate?_eq_some`); a silent frame's lies below −240. -/
theorem candidateIsTheHighestBin : Obligations.CandidateIsTheHighestBin := by
  unfold Obligations.CandidateIsTheHighestBin
  intro threshold levels length
  have held : levels ≠ [] := fun e => by simp [e] at length
  refine ⟨fun b => ?_, ?_⟩
  · rw [candidate?_eq_some held]
    constructor
    · rintro ⟨low, peak, above, loud⟩
      have inside := peak.inside
      exact ⟨low, by omega, length ▸ peak.highest, peak.lowest, above, loud⟩
    · rintro ⟨low, high, highest, lowest, above, loud⟩
      exact ⟨low, ⟨by omega, length ▸ highest, lowest⟩, above, loud⟩
  · rintro - rfl
    refine Option.eq_none_iff_forall_ne_some.mpr fun b found => ?_
    obtain ⟨-, peak, -, loud⟩ := (candidate?_eq_some held).mp found
    have inside := peak.inside
    rw [List.length_replicate] at inside
    rw [List.getD_replicate _ inside] at loud
    omega

end Sys2Proof.Machine

namespace Sys2Proof.Machine
open Sys2Proof.Safety

/-! ## A watched frame (R154 to R160) -/

/-! ### The persistence state (R154) -/

/-- The candidate of a frame touches the persistence state alone. -/
theorem Ring.persist_eq (r : Ring) (c : Option Nat) :
    r.persist c = { r with candidate := c, count := (r.persist c).count } := by
  unfold Ring.persist
  split
  · rfl
  · rfl
  · split <;> rfl

@[simp] theorem Ring.persist_candidate (r : Ring) (c : Option Nat) : (r.persist c).candidate = c := by
  rw [Ring.persist_eq]

@[simp] theorem Ring.persist_margin (r : Ring) (c : Option Nat) : (r.persist c).margin = r.margin := by
  rw [Ring.persist_eq]

@[simp] theorem Ring.persist_sinceConfirm (r : Ring) (c : Option Nat) :
    (r.persist c).sinceConfirm = r.sinceConfirm := by
  rw [Ring.persist_eq]

theorem Ring.persist_count (r : Ring) (c : Option Nat) :
    (r.persist c).count =
      match c, r.candidate with
      | none, _ => 0
      | some _, none => 1
      | some b, some h => if b ≤ h + 1 ∧ h ≤ b + 1 then r.count + 1 else 1 := by
  unfold Ring.persist
  cases c with
  | none => rfl
  | some b =>
    cases r.candidate with
    | none => rfl
    | some h =>
      have near : (b = h ∨ b + 1 = h ∨ b = h + 1) ↔ b ≤ h + 1 ∧ h ≤ b + 1 := by omega
      dsimp only
      rw [if_congr near rfl rfl]
      split <;> rfl

/-! ### The answer to a confirmation (R155, R156) -/

theorem Notch.fixed_or_dynamic (n : Notch) : (∃ w, n.kind = .fixed w) ∨ n.kind = .dynamic := by
  cases n.kind with
  | fixed w => exact .inl ⟨w, rfl⟩
  | dynamic => exact .inr rfl

/-- The first notch of a list that covers a bin is the one hit. -/
theorem Ring.answer_covering {r : Ring} {before after : List Notch} {n : Notch} {b : Nat}
    (split : r.notches = before ++ n :: after) (covers : n.covers b = true)
    (first : ∀ m ∈ before, m.covers b = false) : r.answer b = r.hitNotch n := by
  have found : r.notches.find? (Notch.covers b) = some n :=
    List.find?_eq_some_iff_append.mpr ⟨covers, before, after, split, fun m hm => by simp [first m hm]⟩
  simp only [Ring.answer, found]

theorem Ring.answer_uncovered {r : Ring} {b : Nat} (h : ∀ m ∈ r.notches, m.covers b = false) :
    r.answer b = r.placeNotch b := by
  have missed : r.notches.find? (Notch.covers b) = none := List.find?_eq_none.mpr fun m hm => by simp [h m hm]
  simp only [Ring.answer, missed]

theorem Ring.hitNotch_deepens {r : Ring} {n : Notch} (dynamic : n.kind = .dynamic) (shallow : n.depth < 72) :
    r.hitNotch n =
      { ring :=
          { r with
            notches := mapSlot n.slot (fun n => { n with sinceHit := 0, depth := min 72 (n.depth + 12) }) r.notches }
        hit := some n.slot
        margin := false } := by
  simp [Ring.hitNotch, dynamic, shallow]

theorem Ring.hitNotch_left {r : Ring} {n : Notch} (h : n.kind = .dynamic → 72 ≤ n.depth) :
    r.hitNotch n =
      { ring := { r with notches := mapSlot n.slot (fun n => { n with sinceHit := 0 }) r.notches }
        hit := some n.slot
        margin := true } := by
  obtain ⟨w, fixed⟩ | dynamic := n.fixed_or_dynamic
  · simp [Ring.hitNotch, fixed]
  · simp [Ring.hitNotch, dynamic, not_lt.mpr (h dynamic)]

theorem Ring.placeNotch_room {r : Ring} {b : Nat} {k : NotchIx} {ns : List Notch}
    (room : roomFor r.notches = some (k, ns)) :
    r.placeNotch b = { ring := { r with notches := ns ++ [dynamicNotch k b] }, hit := some k, margin := false } := by
  simp only [Ring.placeNotch, room]

theorem Ring.placeNotch_full {r : Ring} {b : Nat} (full : roomFor r.notches = none) :
    r.placeNotch b = { ring := r, hit := none, margin := true } := by
  simp only [Ring.placeNotch, full]

/-- An answer touches the notches alone. -/
theorem Ring.answer_eq (r : Ring) (b : Nat) :
    (r.answer b).ring = { r with notches := (r.answer b).ring.notches } := by
  unfold Ring.answer Ring.hitNotch Ring.placeNotch
  split
  · split <;> rfl
  · split <;> rfl

/-- An answer looks at the notches alone. -/
theorem Ring.answer_congr {r p : Ring} (h : p.notches = r.notches) (b : Nat) :
    (p.answer b).ring.notches = (r.answer b).ring.notches ∧ (p.answer b).hit = (r.answer b).hit
      ∧ (p.answer b).margin = (r.answer b).margin := by
  unfold Ring.answer Ring.hitNotch Ring.placeNotch
  rw [h]
  split
  · split <;> exact ⟨rfl, rfl, rfl⟩
  · split
    · exact ⟨rfl, rfl, rfl⟩
    · exact ⟨h, rfl, rfl⟩

/-! ### Margin steps, releases and recovery (R157, R159, R160) -/

theorem Ring.marginStep_runaway {r : Ring} (h : 48 ≤ r.margin) : r.marginStep = { r with runaway := true } :=
  if_pos h

theorem Ring.marginStep_below {r : Ring} (h : r.margin < 48) :
    r.marginStep = { r with margin := min 48 (r.margin + 4) } :=
  if_neg (not_le.mpr h)

theorem Ring.ageAll_of_runaway {r : Ring} (h : r.runaway = true) (release : Nat) (hit : Option NotchIx) :
    r.ageAll release hit false = r := by
  simp [Ring.ageAll, h]

theorem Ring.ageAll_unconfirmed {r : Ring} (h : r.runaway = false) (release : Nat) (hit : Option NotchIx) :
    r.ageAll release hit false =
      { r with
        notches := r.notches.filterMap (ageNotch release hit)
        margin := if release ≤ min 65535 (r.sinceConfirm + 1) then r.margin - 4 else r.margin
        sinceConfirm :=
          if release ≤ min 65535 (r.sinceConfirm + 1) then 0 else min 65535 (r.sinceConfirm + 1) } := by
  simp only [Ring.ageAll, h, Ring.recover, Bool.false_eq_true, if_false]
  split <;> rfl

/-- At a result with a confirmation no margin recovers; the notches age unless the zone is in runaway. -/
theorem Ring.ageAll_confirmed (r : Ring) (release : Nat) (hit : Option NotchIx) :
    r.ageAll release hit true =
      { r with
        notches := if r.runaway then r.notches else r.notches.filterMap (ageNotch release hit)
        sinceConfirm := 0 } := by
  cases h : r.runaway <;> simp [Ring.ageAll, Ring.recover, h]

theorem ageNotch_hit {release : Nat} {hit : Option NotchIx} {n : Notch} (h : hit = some n.slot) :
    ageNotch release hit n = some n :=
  if_pos h

theorem ageNotch_fixed {release : Nat} {hit : Option NotchIx} {n : Notch} (h : hit ≠ some n.slot) {w : Nat}
    (fixed : n.kind = .fixed w) :
    ageNotch release hit n = some { n with sinceHit := min 65535 (n.sinceHit + 1) } := by
  simp only [ageNotch, if_neg h, fixed]

theorem ageNotch_dynamic {release : Nat} {hit : Option NotchIx} {n : Notch} (h : hit ≠ some n.slot)
    (dynamic : n.kind = .dynamic) :
    ageNotch release hit n =
      if min 65535 (n.sinceHit + 1) < release then some { n with sinceHit := min 65535 (n.sinceHit + 1) }
      else if 12 < n.depth then some { n with depth := n.depth - 12, sinceHit := 0 }
      else none := by
  simp only [ageNotch, if_neg h, dynamic]

/-! ### The outcome of a watched frame -/

theorem Ring.frameOutcome_unconfirmed {v : ZoneSettings} {c : Option Nat} {r : Ring}
    (h : c = none ∨ (r.persist c).count < v.persistence) :
    r.frameOutcome v c =
      { ring := (r.persist c).ageAll v.release none false, ringAction := false, runaway := false } := by
  unfold Ring.frameOutcome
  dsimp only
  rw [Ring.persist_candidate]
  cases c with
  | none => rfl
  | some b => rw [decide_eq_false (not_le.mpr (h.resolve_left (by simp)))]

theorem Ring.frameOutcome_ignored {v : ZoneSettings} {b : Nat} {r : Ring}
    (h : v.persistence ≤ (r.persist (some b)).count) (runaway : r.runaway = true) :
    r.frameOutcome v (some b) =
      { ring := { r.persist (some b) with count := 0 }, ringAction := false, runaway := false } := by
  simp only [Ring.frameOutcome, Ring.persist_candidate, decide_eq_true h, runaway]

/-- The ring fields once a confirmation at a bin has been answered, with its margin step where it calls for one
(R154 to R157). -/
def Ring.confirmed (r : Ring) (b : Nat) : Ring :=
  let answered := ({ r with candidate := some b, count := 0 } : Ring).answer b
  if answered.margin then answered.ring.marginStep else answered.ring

theorem Ring.frameOutcome_confirmed {v : ZoneSettings} {b : Nat} {r : Ring}
    (h : v.persistence ≤ (r.persist (some b)).count) (calm : r.runaway = false) :
    r.frameOutcome v (some b) =
      { ring := (r.confirmed b).ageAll v.release (r.answer b).hit true
        ringAction := true
        runaway := (r.confirmed b).runaway } := by
  have cleared : ({ r.persist (some b) with count := 0 } : Ring) = { r with candidate := some b, count := 0 } := by
    rw [Ring.persist_eq]
  obtain ⟨-, hit, -⟩ := Ring.answer_congr (r := r) (p := { r with candidate := some b, count := 0 }) rfl b
  unfold Ring.frameOutcome
  dsimp -eta only
  rw [cleared, Ring.persist_candidate, decide_eq_true h, ← hit, Ring.confirmed, calm]

/-- An answered confirmation, field by field. -/
theorem Ring.confirmed_eq {r : Ring} (calm : r.runaway = false) (b : Nat) :
    r.confirmed b =
      { notches := (r.answer b).ring.notches
        candidate := some b
        count := 0
        margin := if (r.answer b).margin = true ∧ r.margin < 48 then min 48 (r.margin + 4) else r.margin
        runaway := decide ((r.answer b).margin = true ∧ 48 ≤ r.margin)
        sinceConfirm := r.sinceConfirm } := by
  obtain ⟨notches, -, margin⟩ := Ring.answer_congr (r := r) (p := { r with candidate := some b, count := 0 }) rfl b
  unfold Ring.confirmed
  dsimp only
  rw [margin, Ring.answer_eq, notches]
  cases (r.answer b).margin with
  | false => simp [calm]
  | true =>
    rcases lt_or_ge r.margin 48 with low | high
    · rw [if_pos rfl, Ring.marginStep_below (by simpa using low)]
      simp [calm, low]
    · rw [if_pos rfl, Ring.marginStep_runaway (by simpa using high)]
      simp [high]

/-- Settles O33: the persistence state field by field, then the outcome by whether it confirms and by runaway, then the
answer by the notch that is hit or the room that is made. -/
theorem confirmationsAnswered : Obligations.ConfirmationsAnswered := by
  unfold Obligations.ConfirmationsAnswered
  intro v r
  refine ⟨fun c => ⟨r.persist_notches c, r.persist_margin c, r.persist_runaway c, r.persist_sinceConfirm c,
    r.persist_candidate c, r.persist_count c⟩, fun c h => ?_, fun b h => ⟨Ring.frameOutcome_ignored h, fun calm => ?_⟩,
    fun b once => ⟨fun before n after split covers first => ⟨fun dynamic shallow => ?_, fun left => ?_⟩,
      fun uncovered => ?_⟩⟩
  · rw [Ring.frameOutcome_unconfirmed h]
    exact ⟨rfl, rfl⟩
  · rw [Ring.frameOutcome_confirmed h calm, Ring.ageAll_confirmed, Ring.confirmed_eq calm]
    exact ⟨rfl, rfl, rfl, rfl, decide_eq_true_iff, rfl, rfl⟩
  · rw [Ring.answer_covering split covers first, Ring.hitNotch_deepens dynamic shallow, split,
      mapSlot_middle (split ▸ once)]
  · have stays : n.kind = .dynamic → 72 ≤ n.depth := fun dynamic =>
      left.elim (fun h => h.2) fun ⟨w, fixed⟩ => by simp [dynamic] at fixed
    rw [Ring.answer_covering split covers first, Ring.hitNotch_left stays, split, mapSlot_middle (split ▸ once)]
  · rintro made rfl
    rw [Ring.answer_uncovered uncovered]
    refine ⟨fun k free taken => Ring.placeNotch_room (roomFor_free free taken), fun full =>
      ⟨fun before n after split dynamic first => Ring.placeNotch_room ?_, fun fixed =>
        Ring.placeNotch_full (roomFor_fixed full fixed)⟩⟩
    rw [split] at once full ⊢
    exact roomFor_dynamic once full dynamic first

/-- Settles O34: one notch by its kind and age, then the outcome without a confirmation, and with one that does not enter
runaway. -/
theorem notchesReleaseAndMarginsRecover : Obligations.NotchesReleaseAndMarginsRecover := by
  unfold Obligations.NotchesReleaseAndMarginsRecover
  intro v r
  refine ⟨?_, ?_, fun b h calm below => ?_⟩
  · rintro hit n age rfl
    refine ⟨ageNotch_hit, fun other => ⟨fun h => ?_, fun dynamic due => ?_⟩⟩
    · obtain ⟨w, fixed⟩ | dynamic := n.fixed_or_dynamic
      · exact ageNotch_fixed other fixed
      · rw [ageNotch_dynamic other dynamic, if_pos (h.resolve_left (by simp [dynamic]))]
    · rw [ageNotch_dynamic other dynamic, if_neg (not_lt.mpr due)]
      exact ⟨fun deep => if_pos deep, fun shallow => if_neg (not_lt.mpr shallow)⟩
  · rintro c h p rfl
    rw [Ring.frameOutcome_unconfirmed h]
    refine ⟨fun runaway => Ring.ageAll_of_runaway (by simpa using runaway) _ _, fun calm => ?_⟩
    rw [Ring.ageAll_unconfirmed (by simpa using calm), Ring.persist_notches, Ring.persist_margin,
      Ring.persist_sinceConfirm]
  · rw [Ring.frameOutcome_confirmed h calm, Ring.ageAll_confirmed, Ring.confirmed_eq calm]
    exact if_neg fun runaway => below (of_decide_eq_true runaway)

end Sys2Proof.Machine

namespace Sys2Proof.Machine
open Sys2Proof.Safety

/-! ## The notches and margins that every step keeps (O57) -/

/-! ### Notches apart and in range (R150) -/

/-- A zone's notch list as the eighth law has it: apart, and each notch in its ranges. -/
structure NotchesSound (ns : List Notch) : Prop where
  apart : ns.Pairwise notchesApart
  range : ∀ n ∈ ns, notchInRange n

theorem notchesApart_symm {m n : Notch} (h : notchesApart m n) : notchesApart n m :=
  ⟨h.1.symm, h.2.symm⟩

section Sound

variable {ns : List Notch}

theorem NotchesSound.once (h : NotchesSound ns) : (ns.map Notch.slot).Nodup :=
  List.pairwise_map.mpr (h.apart.imp fun apart => apart.1)

theorem NotchesSound.sublist (h : NotchesSound ns) {ms : List Notch} (sub : ms.Sublist ns) : NotchesSound ms :=
  ⟨h.apart.sublist sub, fun n hn => h.range n (sub.subset hn)⟩

/-- A notch may stand in a list that is sound without it where it is in range and apart from all the others. -/
theorem NotchesSound.insert {before after : List Notch} {n : Notch} (h : NotchesSound (before ++ after))
    (range : notchInRange n) (apart : ∀ m ∈ before ++ after, notchesApart n m) :
    NotchesSound (before ++ n :: after) where
  apart := (List.pairwise_middle notchesApart_symm).mpr (List.pairwise_cons.mpr ⟨apart, h.apart⟩)
  range m hm := by
    rcases List.mem_cons.mp (List.perm_middle.mem_iff.mp hm) with rfl | hm
    · exact range
    · exact h.range m hm

/-- A notch at a bin that no other covers, in a slot of its own, stands apart from all of them. -/
theorem notchesApart_of_uncovered {n : Notch} (uncovered : ∀ m ∈ ns, m.covers n.bin = false)
    (free : ∀ m ∈ ns, m.slot ≠ n.slot) (m : Notch) (hm : m ∈ ns) : notchesApart n m :=
  ⟨(free m hm).symm, (Notch.covers_eq_false.mp (uncovered m hm)).symm⟩

end Sound

/-! ### The FIXED notches of a list -/

/-- The working copy of two lists is the same where each slot has the same FIXED notch in both. -/
theorem storedNotches_congr {ms ns : List Notch} (hm : (ms.map Notch.slot).Nodup) (hn : (ns.map Notch.slot).Nodup)
    (same : ∀ j f, (∃ m ∈ ms, m.slot = j ∧ m.stored = some f) ↔ ∃ n ∈ ns, n.slot = j ∧ n.stored = some f) :
    storedNotches ms = storedNotches ns :=
  Table.ext_get fun j => Option.ext fun f => by
    rw [storedNotches_get hm, storedNotches_get hn]
    exact same j f

/-- A DYNAMIC notch is nothing to the working copy. -/
theorem storedNotches_middle {before after : List Notch} {n : Notch}
    (once : ((before ++ n :: after).map Notch.slot).Nodup) (dynamic : n.kind = .dynamic) :
    storedNotches (before ++ n :: after) = storedNotches (before ++ after) := by
  refine storedNotches_congr once (once.sublist (((List.Sublist.refl _).append (List.sublist_cons_self n after)).map _))
    fun j f => ⟨?_, ?_⟩
  · rintro ⟨m, hm, slot, stored⟩
    rcases List.mem_cons.mp (List.perm_middle.mem_iff.mp hm) with rfl | hm
    · simp [Notch.stored_eq_none.mpr dynamic] at stored
    · exact ⟨m, hm, slot, stored⟩
  · rintro ⟨m, hm, held⟩
    exact ⟨m, List.perm_middle.mem_iff.mpr (List.mem_cons_of_mem n hm), held⟩

/-! ### What a frame result and a block do to a list

They place, deepen, age and release DYNAMIC notches: the list stays sound, and its FIXED notches those of the working
copy. -/

/-- From a sound list `ns` comes a sound list `ms` with the same FIXED notches. -/
def Tended (ns ms : List Notch) : Prop :=
  NotchesSound ns → NotchesSound ms ∧ storedNotches ms = storedNotches ns

/-- A notch as `m` stands where `n` did, with the same FIXED quantities. -/
structure Notch.Stays (n m : Notch) : Prop where
  slot : m.slot = n.slot := by rfl
  bin : m.bin = n.bin := by rfl
  stored : m.stored = n.stored := by rfl
  range : notchInRange n → notchInRange m := by exact id

theorem Tended.refl (ns : List Notch) : Tended ns ns :=
  fun sound => ⟨sound, rfl⟩

theorem Tended.trans {ns ms ls : List Notch} (h : Tended ns ms) (g : Tended ms ls) : Tended ns ls := fun sound =>
  have ⟨sound, stored⟩ := h sound
  have ⟨sound', stored'⟩ := g sound
  ⟨sound', stored'.trans stored⟩

theorem Tended.filterMap {ns : List Notch} {f : Notch → Option Notch}
    (stays : ∀ n ∈ ns, ∀ m, f n = some m → n.Stays m) (leaves : ∀ n ∈ ns, f n = none → n.stored = none) :
    Tended ns (ns.filterMap f) := by
  intro sound
  have kept : NotchesSound (ns.filterMap f) := by
    constructor
    · rw [List.pairwise_filterMap]
      refine sound.apart.imp_of_mem fun {a b} ha hb apart m hm n hn => ?_
      have hm := stays a ha m hm
      have hn := stays b hb n hn
      rwa [notchesApart, hm.slot, hn.slot, hm.bin, hn.bin]
    · intro m hm
      obtain ⟨n, hn, e⟩ := List.mem_filterMap.mp hm
      exact (stays n hn m e).range (sound.range n hn)
  refine ⟨kept, storedNotches_congr kept.once sound.once fun j g => ⟨?_, ?_⟩⟩
  · rintro ⟨m, hm, slot, stored⟩
    obtain ⟨n, hn, e⟩ := List.mem_filterMap.mp hm
    have same := stays n hn m e
    exact ⟨n, hn, same.slot ▸ slot, same.stored ▸ stored⟩
  · rintro ⟨n, hn, slot, stored⟩
    cases e : f n with
    | none => simp [leaves n hn e] at stored
    | some m =>
      have same := stays n hn m e
      exact ⟨m, List.mem_filterMap.mpr ⟨n, hn, e⟩, same.slot.trans slot, same.stored.trans stored⟩

theorem Tended.map {ns : List Notch} {f : Notch → Notch} (stays : ∀ n ∈ ns, n.Stays (f n)) : Tended ns (ns.map f) := by
  rw [← List.filterMap_eq_map]
  refine Tended.filterMap (fun n hn m e => ?_) fun n _ e => nomatch e
  obtain rfl := Option.some.inj e
  exact stays n hn

/-- The room for a new notch leaves a list whose notches were in the old one, none of them in the slot (R156). -/
theorem roomFor_tended {ns ms : List Notch} {k : NotchIx} (room : roomFor ns = some (k, ms)) :
    Tended ns ms ∧ ms.Sublist ns ∧ ∀ m ∈ ms, m.slot ≠ k := by
  obtain ⟨rfl, free⟩ | ⟨n, hn, dynamic, rfl, rfl⟩ := roomFor_cases room
  · exact ⟨.refl _, .refl _, free⟩
  · refine ⟨fun sound => ?_, List.filter_sublist, fun m hm => of_decide_eq_true (List.mem_filter.mp hm).2⟩
    obtain ⟨before, after, rfl⟩ := List.append_of_mem hn
    refine ⟨sound.sublist List.filter_sublist, ?_⟩
    rw [removeSlot_middle sound.once, storedNotches_middle sound.once dynamic]

theorem Tended.place {ns : List Notch} {n : Notch} (dynamic : n.kind = .dynamic) (range : notchInRange n)
    (apart : ∀ m ∈ ns, notchesApart n m) : Tended ns (ns ++ [n]) := by
  intro sound
  have placed : NotchesSound (ns ++ [n]) :=
    NotchesSound.insert (before := ns) (after := []) (by rwa [List.append_nil]) range (by rwa [List.append_nil])
  refine ⟨placed, ?_⟩
  rw [storedNotches_middle placed.once dynamic, List.append_nil]

theorem Ring.placeNotch_tended {r : Ring} {b : Nat} (low : 4 ≤ b) (high : b ≤ 511)
    (uncovered : ∀ m ∈ r.notches, m.covers b = false) : Tended r.notches (r.placeNotch b).ring.notches := by
  cases room : roomFor r.notches with
  | none =>
    rw [Ring.placeNotch_full room]
    exact .refl _
  | some room' =>
    obtain ⟨k, ms⟩ := room'
    obtain ⟨tended, sub, free⟩ := roomFor_tended room
    rw [Ring.placeNotch_room room]
    have range : notchInRange (dynamicNotch k b) :=
      ⟨low, high, by simp [dynamicNotch], by simp [dynamicNotch], fun _ => rfl⟩
    exact tended.trans (.place rfl range (notchesApart_of_uncovered (fun m hm => uncovered m (sub.subset hm)) free))

/-- A hit DYNAMIC notch deepens by a step of 12, up to 72 (R155). -/
theorem Notch.Stays.deepened {n : Notch} (dynamic : n.kind = .dynamic) (shallow : n.depth < 72) :
    n.Stays { n with sinceHit := 0, depth := min 72 (n.depth + 12) } where
  stored := by rw [Notch.stored_eq_none.mpr dynamic]; exact Notch.stored_eq_none.mpr dynamic
  range := by
    rintro ⟨low, high, least, most, steps⟩
    have steps := steps dynamic
    refine ⟨low, high, ?_, ?_, fun _ => ?_⟩ <;> dsimp only <;> omega

theorem Ring.hitNotch_tended {r : Ring} {n : Notch} (hn : n ∈ r.notches) :
    Tended r.notches (r.hitNotch n).ring.notches := by
  intro sound
  by_cases deepens : n.kind = .dynamic ∧ n.depth < 72
  · rw [Ring.hitNotch_deepens deepens.1 deepens.2]
    refine Tended.map (fun m hm => ?_) sound
    split
    · next same =>
      obtain rfl : m = n := List.inj_on_of_nodup_map sound.once hm hn same
      exact .deepened deepens.1 deepens.2
    · exact {}
  · rw [Ring.hitNotch_left fun dynamic => not_lt.mp fun shallow => deepens ⟨dynamic, shallow⟩]
    refine Tended.map (fun m hm => ?_) sound
    split <;> exact {}

theorem Ring.answer_tended (r : Ring) {b : Nat} (low : 4 ≤ b) (high : b ≤ 511) :
    Tended r.notches (r.answer b).ring.notches := by
  unfold Ring.answer
  split
  · next found => exact Ring.hitNotch_tended (List.mem_of_find?_eq_some found)
  · next missed =>
    exact Ring.placeNotch_tended low high fun m hm => Bool.eq_false_iff.mpr (List.find?_eq_none.mp missed m hm)

/-- An aged notch stays where it stands; what leaves is DYNAMIC (R159). -/
theorem ageNotch_stays (release : Nat) (hit : Option NotchIx) (n : Notch) :
    (∀ m, ageNotch release hit n = some m → n.Stays m) ∧ (ageNotch release hit n = none → n.stored = none) := by
  by_cases other : hit = some n.slot
  · rw [ageNotch_hit other]
    exact ⟨fun m e => Option.some.inj e ▸ {}, fun e => nomatch e⟩
  obtain ⟨w, fixed⟩ | dynamic := n.fixed_or_dynamic
  · rw [ageNotch_fixed other fixed]
    exact ⟨fun m e => Option.some.inj e ▸ {}, fun e => nomatch e⟩
  · refine ⟨fun m e => ?_, fun _ => Notch.stored_eq_none.mpr dynamic⟩
    rw [ageNotch_dynamic other dynamic] at e
    split at e
    · exact Option.some.inj e ▸ {}
    · split at e
      · next deep =>
        obtain rfl := Option.some.inj e
        refine { stored := ?_, range := ?_ }
        · rw [Notch.stored_eq_none.mpr dynamic]
          exact Notch.stored_eq_none.mpr dynamic
        · rintro ⟨low, high, least, most, steps⟩
          have steps := steps dynamic
          refine ⟨low, high, ?_, ?_, fun _ => ?_⟩ <;> dsimp only <;> omega
      · exact nomatch e

theorem Tended.aged (release : Nat) (hit : Option NotchIx) (ns : List Notch) :
    Tended ns (ns.filterMap (ageNotch release hit)) :=
  .filterMap (fun n _ => (ageNotch_stays release hit n).1) fun n _ => (ageNotch_stays release hit n).2

theorem Ring.ageAll_tended (release : Nat) (hit : Option NotchIx) (confirmed : Bool) (r : Ring) :
    Tended r.notches (r.ageAll release hit confirmed).notches := by
  unfold Ring.ageAll
  split
  · split <;> exact .refl _
  · rw [Ring.recover_notches]
    exact .aged release hit r.notches

/-- The ring fields after a watched frame: nothing to answer, a confirmation that runaway ignores, or an answered one
(R154 to R160). -/
theorem Ring.frameOutcome_cases (v : ZoneSettings) (c : Option Nat) (r : Ring) :
    (r.frameOutcome v c).ring = (r.persist c).ageAll v.release none false
    ∨ (r.frameOutcome v c).ring = { r.persist c with count := 0 }
    ∨ ∃ b, c = some b ∧ r.runaway = false
        ∧ (r.frameOutcome v c).ring = (r.confirmed b).ageAll v.release (r.answer b).hit true := by
  cases c with
  | none => exact .inl (by rw [Ring.frameOutcome_unconfirmed (.inl rfl)])
  | some b =>
    rcases lt_or_ge (r.persist (some b)).count v.persistence with below | reached
    · exact .inl (by rw [Ring.frameOutcome_unconfirmed (.inr below)])
    · cases runaway : r.runaway with
      | true => exact .inr (.inl (by rw [Ring.frameOutcome_ignored reached runaway]))
      | false => exact .inr (.inr ⟨b, rfl, rfl, by rw [Ring.frameOutcome_confirmed reached runaway]⟩)

theorem Ring.frameOutcome_tended (v : ZoneSettings) {c : Option Nat} (r : Ring)
    (bins : ∀ b, c = some b → 4 ≤ b ∧ b ≤ 511) : Tended r.notches (r.frameOutcome v c).ring.notches := by
  obtain e | e | ⟨b, hc, calm, e⟩ := Ring.frameOutcome_cases v c r
  · rw [e, ← r.persist_notches c]
    exact Ring.ageAll_tended _ _ _ _
  · rw [e, ← r.persist_notches c]
    exact .refl _
  · have answered : (r.confirmed b).notches = (r.answer b).ring.notches := by rw [Ring.confirmed_eq calm]
    obtain ⟨low, high⟩ := bins b hc
    rw [e]
    exact (answered ▸ r.answer_tended low high).trans (Ring.ageAll_tended _ _ _ _)

/-! ### A pin (R161) -/

theorem NotchesSound.pinIn {ns ms : List Notch} (sound : NotchesSound ns) {b w : Nat} {d : Int} {k : NotchIx}
    (low : 4 ≤ b) (high : b ≤ 511) (least : 12 ≤ d) (most : d ≤ 72) (pin : pinIn ns b d w = some (ms, k)) :
    NotchesSound ms := by
  have range (fresh : Bool) (j : NotchIx) : notchInRange (pinned b d w fresh j) :=
    ⟨low, high, least, most, fun dynamic => nomatch dynamic⟩
  cases found : ns.find? (Notch.covers b) with
  | some n =>
    obtain ⟨covers, before, after, rfl, first⟩ := List.find?_eq_some_iff_append.mp found
    have first : ∀ m ∈ before, m.covers b = false := fun m hm => by simpa using first m hm
    have sub : (before ++ after.filter fun m => !m.covers b).Sublist (before ++ after) :=
      (List.Sublist.refl _).append List.filter_sublist
    have uncovered : ∀ m ∈ before ++ after.filter (fun m => !m.covers b), m.covers b = false := fun m hm =>
      (List.mem_append.mp hm).elim (first m) fun hm => by simpa using (List.mem_filter.mp hm).2
    rw [pinIn_covering d w sound.once covers first] at pin
    obtain ⟨rfl, -⟩ := Prod.mk.inj (Option.some.inj pin)
    have others := sound.sublist ((List.Sublist.refl before).append (List.sublist_cons_self n after))
    exact (others.sublist sub).insert (range _ _)
      (notchesApart_of_uncovered uncovered fun m hm => slot_ne_of_middle sound.once (sub.subset hm))
  | none =>
    have uncovered : ∀ m ∈ ns, m.covers b = false := fun m hm =>
      Bool.eq_false_iff.mpr (List.find?_eq_none.mp found m hm)
    rw [pinIn_uncovered uncovered] at pin
    obtain ⟨⟨j, ls⟩, room, e⟩ := Option.map_eq_some_iff.mp pin
    obtain ⟨rfl, rfl⟩ := Prod.mk.inj e
    obtain ⟨-, sub, free⟩ := roomFor_tended room
    refine NotchesSound.insert (before := ls) (after := []) ?_ (range true j) ?_
    · rw [List.append_nil]
      exact sound.sublist sub
    · rw [List.append_nil]
      exact notchesApart_of_uncovered (fun m hm => uncovered m (sub.subset hm)) free

/-! ### The margin (R157, R160) -/

/-- A zone's margin as the ninth law has it. -/
def Ring.MarginSound (r : Ring) : Prop :=
  r.margin ≤ 48 ∧ (r.runaway = true → r.margin = 48)

theorem Ring.ageAll_marginSound {r : Ring} (h : r.MarginSound) (release : Nat) (hit : Option NotchIx)
    (confirmed : Bool) : (r.ageAll release hit confirmed).MarginSound := by
  cases confirmed with
  | true =>
    rw [Ring.ageAll_confirmed]
    exact h
  | false =>
    cases runaway : r.runaway with
    | true =>
      rw [Ring.ageAll_of_runaway runaway]
      exact h
    | false =>
      rw [Ring.ageAll_unconfirmed runaway]
      refine ⟨?_, fun h => by simp [runaway] at h⟩
      have := h.1
      dsimp only
      split <;> omega

/-- A margin step stops at 48, and only from there the zone enters runaway (R157). -/
theorem Ring.confirmed_marginSound {r : Ring} (h : r.MarginSound) (calm : r.runaway = false) (b : Nat) :
    (r.confirmed b).MarginSound := by
  have most := h.1
  rw [Ring.confirmed_eq calm]
  refine ⟨?_, fun runaway => ?_⟩
  · dsimp only
    split <;> omega
  · have top := (of_decide_eq_true runaway).2
    dsimp only
    split <;> omega

theorem Ring.frameOutcome_marginSound {r : Ring} (h : r.MarginSound) (v : ZoneSettings) (c : Option Nat) :
    (r.frameOutcome v c).ring.MarginSound := by
  have persisted : (r.persist c).MarginSound := by rwa [Ring.MarginSound, Ring.persist_margin, Ring.persist_runaway]
  obtain e | e | ⟨b, -, calm, e⟩ := Ring.frameOutcome_cases v c r
  · exact e ▸ Ring.ageAll_marginSound persisted _ _ _
  · exact e ▸ persisted
  · exact e ▸ Ring.ageAll_marginSound (Ring.confirmed_marginSound h calm b) _ _ _

end Sys2Proof.Machine

namespace Sys2Proof.Machine
open Sys2Proof.Safety

/-! ### The FIXED notches that a start-up sets (R167, R198) -/

/-- A zone's FIXED notches in the working copy, apart and in range. -/
structure StoredSound (t : Table (Option FixedNotch) 8) : Prop where
  apart : ∀ {j k : NotchIx} {f g : FixedNotch}, j ≠ k → t.get j = some f → t.get k = some g →
    f.bin + 1 < g.bin ∨ g.bin + 1 < f.bin
  range : ∀ {k : NotchIx} {f : FixedNotch}, t.get k = some f → 4 ≤ f.bin ∧ f.bin ≤ 511 ∧ 12 ≤ f.depth ∧ f.depth ≤ 72

theorem StoredSound.of_empty {t : Table (Option FixedNotch) 8} (h : ∀ k, t.get k = none) : StoredSound t where
  apart _ hj := by simp [h] at hj
  range hk := by simp [h] at hk

theorem NotchesSound.stored {ns : List Notch} (h : NotchesSound ns) : StoredSound (storedNotches ns) where
  apart {j k f g} ne hj hk := by
    obtain ⟨m, hm, rfl, e⟩ := (storedNotches_get h.once j f).mp hj
    obtain ⟨n, hn, rfl, e'⟩ := (storedNotches_get h.once k g).mp hk
    obtain ⟨-, mbin, -⟩ := Notch.stored_eq_some.mp e
    obtain ⟨-, nbin, -⟩ := Notch.stored_eq_some.mp e'
    have symm : Std.Symm notchesApart := ⟨fun _ _ => notchesApart_symm⟩
    rw [← mbin, ← nbin]
    exact (h.apart.forall hm hn fun same => ne (congrArg Notch.slot same)).2
  range {k f} hk := by
    obtain ⟨n, hn, -, e⟩ := (storedNotches_get h.once k f).mp hk
    obtain ⟨-, bin, depth⟩ := Notch.stored_eq_some.mp e
    obtain ⟨low, high, least, most, -⟩ := h.range n hn
    rw [← bin, ← depth]
    exact ⟨low, high, least, most⟩

theorem startNotches_once (t : Table (Option FixedNotch) 8) : ((startNotches t).map Notch.slot).Nodup :=
  (startNotches_ascending t).imp fun h => h.ne

/-- What a start-up sets is what the working copy holds. -/
theorem storedNotches_startNotches (t : Table (Option FixedNotch) 8) : storedNotches (startNotches t) = t := by
  refine Table.ext_get fun j => Option.ext fun f => ?_
  rw [storedNotches_get (startNotches_once t)]
  constructor
  · rintro ⟨m, hm, rfl, e⟩
    obtain ⟨fixed, held, shape⟩ := mem_startNotches.mp hm
    rw [shape] at e
    exact held.trans e
  · exact fun held =>
      ⟨{ slot := j, kind := .fixed f.width, bin := f.bin, depth := f.depth, sinceHit := 0, fresh := true },
        mem_startNotches.mpr ⟨f, held, rfl⟩, rfl, rfl⟩

theorem StoredSound.started {t : Table (Option FixedNotch) 8} (h : StoredSound t) : NotchesSound (startNotches t) where
  apart := by
    refine (List.pairwise_map.mp (startNotches_ascending t)).imp_of_mem fun {m n} hm hn lt => ?_
    obtain ⟨f, hf, em⟩ := mem_startNotches.mp hm
    obtain ⟨g, hg, en⟩ := mem_startNotches.mp hn
    refine ⟨lt.ne, ?_⟩
    rw [em, en]
    exact h.apart lt.ne hf hg
  range n hn := by
    obtain ⟨f, hf, e⟩ := mem_startNotches.mp hn
    obtain ⟨low, high, least, most⟩ := h.range hf
    rw [e]
    exact ⟨low, high, least, most, fun dynamic => nomatch dynamic⟩

/-- Two stored notches in slots of their own, with bins not within 1 of each other. -/
def storedApart (m n : StoredNotch) : Prop :=
  m.slot ≠ n.slot ∧ (m.bin + 1 < n.bin ∨ n.bin + 1 < m.bin)

theorem storedApart_symm {m n : StoredNotch} (h : storedApart m n) : storedApart n m :=
  ⟨h.1.symm, h.2.symm⟩

theorem pairwise_of_notchesApart? {ns : List StoredNotch} (h : notchesApart? ns = true) :
    ns.Pairwise storedApart := by
  induction ns with
  | nil => exact .nil
  | cons n ns ih =>
    obtain ⟨first, rest⟩ := Bool.and_eq_true_iff.mp h
    refine List.pairwise_cons.mpr ⟨fun m hm => ?_, ih rest⟩
    have apart := List.all_eq_true.mp first m hm
    simp only [binsClose, Bool.and_eq_true, Bool.not_eq_true', decide_eq_true_eq, Bool.and_eq_false_iff,
      decide_eq_false_iff_not, not_le] at apart
    exact ⟨apart.1.symm, apart.2.symm⟩

/-- A slot that is loaded holds a stored notch of the slot's number, its depth and width clamped (R198). -/
theorem loadNotches_get {ns : List StoredNotch} {k : NotchIx} {f : FixedNotch} (h : (loadNotches ns).get k = some f) :
    ∃ n ∈ ns, n.slot = k.1
      ∧ f = { bin := n.bin, depth := clampNotchDepth n.depth, width := clampNotchWidth n.width } := by
  rw [loadNotches, Table.get_ofFn] at h
  obtain ⟨n, found, e⟩ := Option.map_eq_some_iff.mp h
  exact ⟨n, List.mem_of_find?_eq_some found, by simpa using List.find?_some found, e.symm⟩

/-- The notches of a snapshot that passes the third check are loaded apart and in range (R198). -/
theorem loadNotches_sound {ns : List StoredNotch} (acceptable : ∀ n ∈ ns, notchAcceptable n = true)
    (apart : notchesApart? ns = true) : StoredSound (loadNotches ns) where
  apart {j k f g} ne hj hk := by
    obtain ⟨m, hm, mslot, rfl⟩ := loadNotches_get hj
    obtain ⟨n, hn, nslot, rfl⟩ := loadNotches_get hk
    have symm : Std.Symm storedApart := ⟨fun _ _ => storedApart_symm⟩
    refine ((pairwise_of_notchesApart? apart).forall hm hn fun same => ne (Fin.ext ?_)).2
    rw [← mslot, ← nslot, same]
  range {k f} hk := by
    obtain ⟨n, hn, -, rfl⟩ := loadNotches_get hk
    have bins := acceptable n hn
    simp only [notchAcceptable, Bool.and_eq_true, decide_eq_true_eq] at bins
    obtain ⟨⟨-, low⟩, high⟩ := bins
    refine ⟨low, high, ?_, ?_⟩ <;> simp only [clampNotchDepth, clampInt] <;> omega

theorem loadedCopy_stored (f : FlashImage) (z : ZoneIx) : StoredSound ((loadedCopy f).notches.get z) := by
  unfold loadedCopy
  split
  · next loads =>
    have checks := (Bool.and_eq_true_iff.mp loads).2
    simp only [snapshotAcceptable, Bool.and_eq_true, List.all_eq_true] at checks
    obtain ⟨-, notches⟩ := checks
    obtain ⟨acceptable, apart⟩ := notches _ (Table.mem_cells.mpr ⟨z, rfl⟩)
    rw [loadSnapshot, Table.get_map]
    exact loadNotches_sound acceptable apart
  · exact .of_empty fun k => by simp [factoryDefaults]

/-! ### The laws from one state to another -/

/-- The eighth law in one zone. -/
def State.NotchesHeld (s : State) (z : ZoneIx) : Prop :=
  NotchesSound (s.ringOf z).notches ∧ s.store.working.notches.get z = storedNotches (s.ringOf z).notches

theorem notchesTrue_iff (s : State) : NotchesTrue s ↔ ∀ z, s.NotchesHeld z :=
  forall_congr' fun _ => ⟨fun ⟨apart, range, stored⟩ => ⟨⟨apart, range⟩, stored⟩,
    fun ⟨⟨apart, range⟩, stored⟩ => ⟨apart, range, stored⟩⟩

/-- Zone by zone the two laws pass from `s` to `t`. -/
structure RingsPass (s t : State) : Prop where
  notches : ∀ z, s.NotchesHeld z → t.NotchesHeld z
  margin : ∀ z, (s.ringOf z).MarginSound → (t.ringOf z).MarginSound

/-- The laws speak of the zones' ring fields and of the working copy's FIXED notches. -/
theorem RingsPass.same {s t : State} (zones : t.ring.zones = s.ring.zones)
    (stored : t.store.working.notches = s.store.working.notches) : RingsPass s t := by
  have ringOf (z : ZoneIx) : t.ringOf z = s.ringOf z := congrArg (Table.get · z) zones
  refine ⟨fun z h => ?_, fun z h => ?_⟩
  · rwa [State.NotchesHeld, ringOf, stored]
  · rwa [ringOf]

theorem RingsPass.refl (s : State) : RingsPass s s :=
  .same rfl rfl

theorem RingsPass.trans {s t u : State} (h : RingsPass s t) (g : RingsPass t u) : RingsPass s u :=
  ⟨fun z => g.notches z ∘ h.notches z, fun z => g.margin z ∘ h.margin z⟩

theorem RingsPass.raiseIf {s t : State} (h : RingsPass s t) (c : Bool) (n : Notice) : RingsPass s (t.raiseIf c n) := by
  cases c
  · exact h
  · exact h.trans (.same rfl rfl)

theorem State.setRing_ringsPass {s : State} {z : ZoneIx} {r : Ring} (notches : Tended (s.ringOf z).notches r.notches)
    (margin : (s.ringOf z).MarginSound → r.MarginSound) : RingsPass s (s.setRing z r) := by
  refine ⟨fun y h => ?_, fun y h => ?_⟩
  · obtain ⟨sound, stored⟩ := h
    rw [State.NotchesHeld, State.setRing_ringOf, State.setRing_store]
    split
    · next e =>
      subst e
      obtain ⟨sound, same⟩ := notches sound
      exact ⟨sound, stored.trans same.symm⟩
    · exact ⟨sound, stored⟩
  · rw [State.setRing_ringOf]
    split
    · next e => exact margin (e ▸ h)
    · exact h

theorem State.setNotches_ringsPass {s : State} {z : ZoneIx} {ns : List Notch}
    (sound : NotchesSound (s.ringOf z).notches → NotchesSound ns) : RingsPass s (s.setNotches z ns) := by
  refine ⟨fun y h => ?_, fun y h => ?_⟩
  · rw [State.NotchesHeld, State.setNotches_ringOf, State.setNotches_stored]
    split
    · next e => exact ⟨sound (e ▸ h.1), rfl⟩
    · exact h
  · rw [State.setNotches_ringOf]
    split
    · next e => exact e ▸ h
    · exact h

/-- A part whose ring detector has just been set up from sound FIXED notches has both laws (R167). -/
theorem RingsPass.started {s t : State} {w : WorkingCopy} {blocks : Option Nat} (ring : t.ring = startRings w blocks)
    (stored : t.store.working.notches = w.notches) (sound : ∀ z, s.NotchesHeld z → StoredSound (w.notches.get z)) :
    RingsPass s t := by
  have ringOf (z : ZoneIx) : t.ringOf z = { Ring.quiet with notches := startNotches (w.notches.get z) } := by
    rw [State.ringOf, ring]
    exact Table.get_map _ _ z
  refine ⟨fun z h => ?_, fun z _ => ?_⟩
  · rw [State.NotchesHeld, ringOf, stored]
    exact ⟨(sound z h).started, (storedNotches_startNotches _).symm⟩
  · rw [ringOf]
    exact ⟨Nat.zero_le _, fun runaway => nomatch runaway⟩

/-! ### The requests -/

theorem takePinNotch_ringsPass (zone bin : Nat) (depth : Int) (width : Nat) (s : State) :
    RingsPass s (takePinNotch zone bin depth width s).1 := by
  have clamped : 12 ≤ clampNotchDepth depth ∧ clampNotchDepth depth ≤ 72 := by
    simp only [clampNotchDepth, clampInt]
    omega
  unfold takePinNotch
  split
  · exact .refl s
  · split
    · exact .refl s
    · next inside =>
      split
      · next pin =>
        exact State.setNotches_ringsPass fun sound => sound.pinIn (by omega) (by omega) clamped.1 clamped.2 pin
      · exact .refl s

theorem takeDropNotch_ringsPass (zone slot : Nat) (s : State) : RingsPass s (takeDropNotch zone slot s).1 := by
  unfold takeDropNotch
  split
  · split
    · exact State.setNotches_ringsPass fun sound => sound.sublist List.filter_sublist
    · exact .refl s
  · exact .refl s

theorem takeClearRing_ringsPass (zone : Nat) (s : State) : RingsPass s (takeClearRing zone s).1 := by
  unfold takeClearRing
  split
  · exact .refl s
  · exact State.setRing_ringsPass (.refl _) fun h => ⟨h.1, fun runaway => nomatch runaway⟩

theorem onRoute_ringsPass {act : SlotIx → Route → State → State × Reply} {s : State}
    (h : ∀ k r, RingsPass s (act k r s).1) (name : RouteName) : RingsPass s (onRoute name act s).1 := by
  unfold onRoute
  split
  · exact h _ _
  · exact .refl s

/-- Of the owners only those of PIN-NOTCH, DROP-NOTCH and CLEAR-RING touch what the laws speak of; in each branch of
another it is as it was. -/
theorem ownerOf_ringsPass {i : Instr} {owner : State → State × Reply} (h : ownerOf i = some owner) (s : State) :
    RingsPass s (owner s).1 := by
  cases i <;> cases h
  case pinNotch => exact takePinNotch_ringsPass _ _ _ _ s
  case dropNotch => exact takeDropNotch_ringsPass _ _ s
  case clearRing => exact takeClearRing_ringsPass _ s
  case placeRoute => unfold takePlaceRoute; (repeat' split) <;> exact .same rfl rfl
  case readRoute => exact onRoute_ringsPass (fun _ _ => .same rfl rfl) _
  case retireRoute => exact onRoute_ringsPass (fun _ _ => by split <;> exact .same rfl rfl) _
  case stageRoute =>
    unfold takeStageRoute
    split
    · exact onRoute_ringsPass (fun _ _ => by (repeat' split) <;> exact .same rfl rfl) _
    · exact .same rfl rfl
  case armRoute => exact onRoute_ringsPass (fun _ _ => by (repeat' split) <;> exact .same rfl rfl) _
  case haltRoute => exact onRoute_ringsPass (fun _ _ => by split <;> exact .same rfl rfl) _
  case clearRoute => exact onRoute_ringsPass (fun _ _ => by split <;> exact .same rfl rfl) _
  case writeCue => unfold takeWriteCue; (repeat' split) <;> exact .same rfl rfl
  case readCue => unfold takeReadCue; (repeat' split) <;> exact .same rfl rfl
  case fireCue => unfold takeFireCue; (repeat' split) <;> exact .same rfl rfl
  case readCueResult => unfold takeReadCueResult; split <;> exact .same rfl rfl
  case findRoutes => unfold takeFindRoutes; (repeat' split) <;> exact .same rfl rfl
  case sweepRoutes => unfold takeSweepRoutes; (repeat' split) <;> exact .same rfl rfl
  case setInput => unfold takeSetInput State.editInput; dsimp only; (repeat' split) <;> exact .same rfl rfl
  case readInput => unfold takeReadInput; split <;> exact .same rfl rfl
  case setPrecinct => unfold takeSetPrecinct; split <;> exact .same rfl rfl
  case readPrecinct => unfold takeReadPrecinct; split <;> exact .same rfl rfl
  case setZone =>
    unfold takeSetZone
    split
    · exact .refl s
    · split
      · exact .refl s
      · exact .same (by rw [State.editZone_frame]) (by rw [State.editZone_store])
  case readZone => unfold takeReadZone; split <;> exact .same rfl rfl
  case zoneLive => unfold takeZoneLive; (repeat' split) <;> exact .same rfl rfl
  case setGeometry => unfold takeSetGeometry; split <;> exact .same rfl rfl
  case readGeometry => unfold takeReadGeometry; split <;> exact .same rfl rfl
  case readNotches => unfold takeReadNotches; split <;> exact .same rfl rfl
  case setEq => unfold takeSetEq; split <;> exact .same rfl rfl
  case readEq => unfold takeReadEq; split <;> exact .same rfl rfl
  case setClock => unfold takeSetClock; split <;> exact .same rfl rfl
  case setNoticeMask => unfold takeSetNoticeMask; split <;> exact .same rfl rfl
  case store => unfold takeStore; split <;> exact .same rfl rfl
  case readCueQueue | readClock | notices | restart => exact .same rfl rfl

theorem ringsPass_carried : Carried RingsPass where
  refl := .refl
  trans := .trans
  port _ _ := .same rfl rfl
  owner := ownerOf_ringsPass

/-! ### The events -/

/-- A frame's candidate is one of the bins 4..511, so that what its result places is in range. -/
theorem State.frameResult_ringsPass (s : State) (z : ZoneIx) : RingsPass s (s.frameResult z) := by
  cases due : (s.ring.frames.get z).due with
  | none =>
    rw [State.frameResult_none due]
    exact .refl s
  | some f =>
    rw [State.frameResult_some due]
    have taken : RingsPass s (s.setFrame z { s.ring.frames.get z with due := none }) := .same rfl rfl
    by_cases watched : s.watched z f = true
    · rw [State.takeFrame_watched watched rfl]
      refine taken.trans (RingsPass.raiseIf (RingsPass.raiseIf ?_ _ _) _ _)
      have answered := State.setRing_ringsPass
        (s := s.setFrame z { s.ring.frames.get z with due := none }) (z := z)
        (Ring.frameOutcome_tended (s.zoneSettings z) (s.ringOf z) fun b => candidate?_range
          (threshold := (s.zoneSettings z).ringThreshold) (f := f))
        (fun h => Ring.frameOutcome_marginSound h _ _)
      split
      · exact answered.trans (.same rfl rfl)
      · exact answered
    · rw [State.takeFrame_unwatched watched]
      exact taken.trans (State.setRing_ringsPass (.refl _) id)

theorem State.endZoneFrame_ringsPass (s : State) (z : ZoneIx) : RingsPass s (s.endZoneFrame z) := by
  unfold State.endZoneFrame
  cases (s.ring.frames.get z).ended with
  | nil => exact .refl s
  | cons f rest => exact (s.frameResult_ringsPass z).trans (.same rfl rfl)

theorem endFrame_ringsPass (s : State) : RingsPass s (endFrame s) :=
  List.foldlRecOn _ _ (RingsPass.refl s) fun t h z _ => h.trans (t.endZoneFrame_ringsPass z)

/-- A completion touches the marks of fresh notches alone (R175). -/
theorem completeBlock_ringsPass (gateFirst : Bool) (zonesFirst : Nat) (s : State) :
    RingsPass s (completeBlock gateFirst zonesFirst s) := by
  have done := completeBlock_completed s gateFirst zonesFirst
  refine ⟨fun z ⟨sound, stored⟩ => ?_, fun z h => by rwa [done.ringOf]⟩
  have settled : Tended (s.ringOf z).notches (settleNotches (s.ringOf z)).notches := Tended.map fun n _ => {}
  obtain ⟨sound, same⟩ := settled sound
  rw [State.NotchesHeld, done.ringOf, done.store]
  exact ⟨sound, stored.trans same.symm⟩

theorem State.wakeExpired_ringsPass (s : State) (z : ZoneIx) : RingsPass s (s.wakeExpired z) := by
  unfold State.wakeExpired
  (repeat' split) <;> exact .same rfl rfl

theorem State.standbyExpired_ringsPass (s : State) (z : ZoneIx) : RingsPass s (s.standbyExpired z) := by
  unfold State.standbyExpired
  split <;> exact .same rfl rfl

theorem State.ampSettled_ringsPass (s : State) (z : ZoneIx) : RingsPass s (s.ampSettled z) := by
  unfold State.ampSettled
  dsimp only
  (repeat' split) <;> exact .same rfl rfl

theorem State.keySettled_ringsPass (s : State) (k : KeyIx) : RingsPass s (s.keySettled k) := by
  unfold State.keySettled
  split <;> exact .same rfl rfl

theorem endWrite_ringsPass (left : WorkingCopy → FlashImage) (n : Notice) (s : State) :
    RingsPass s (endWrite left n s) := by
  unfold endWrite
  split <;> exact .same rfl rfl

theorem startUp_ringsPass (s : State) : RingsPass s (startUp s) := by
  have started : RingsPass s
      { run := .running
        engine := RouteEngine.atStart
        gates := GateUnit.atStart
        power := startZones (loadedCopy s.store.flash) s.power
        ring := startRings (loadedCopy s.store.flash) (some 0)
        signal := SignalEngine.atPowerOn
        port := Port.atStart
        store := { working := loadedCopy s.store.flash, flash := s.store.flash, writing := none }
        pending := s.pending } :=
    .started rfl rfl fun z _ => loadedCopy_stored _ z
  exact (started.raiseIf _ _).trans (.same rfl rfl)

/-- A RESTART sets up the FIXED notches that the working copy took from the zone's own list (R150, R201). -/
theorem restartDue_ringsPass (s : State) : RingsPass s (restartDue s) := by
  unfold restartDue
  cases s.port.restart with
  | due => exact .started rfl rfl fun z ⟨sound, stored⟩ => stored ▸ sound.stored
  | _ => exact .refl s

theorem powerDown_ringsPass (s : State) : RingsPass s (powerDown s) :=
  .started rfl rfl fun z _ => .of_empty fun k => by simp [factoryDefaults]

theorem event_ringsPass {i : Instr} {s t : State} (h : ownerOf i = none) (ht : exec i s = .next t) :
    RingsPass s t := by
  have walk := ringsPass_carried
  cases i <;> cases h <;> obtain rfl := Host.Outcome.next.inj ht
  case unknownKindFrame kind body => exact walk.onFrame (walk.takeFrame kind body s)
  case byteReceived b => exact walk.whenRunning (walk.receiveByte b s)
  case gapTimeout => exact walk.whenRunning (walk.gapTimeout s)
  case answerSent => exact walk.whenRunning (walk.answerSent s)
  case blockCompletion g n => exact walk.whenRunning (completeBlock_ringsPass g n s)
  case analysisFrameEnd => exact walk.whenRunning (endFrame_ringsPass s)
  case frameResult zone _ => exact walk.onZone s.frameResult_ringsPass zone
  case ampokLineChange zone ok => split <;> exact .same rfl rfl
  case ampStatusDebounced zone => exact walk.onZone s.ampSettled_ringsPass zone
  case keyLineChange key on => split <;> exact .same rfl rfl
  case keyDebounced key =>
    split
    · exact walk.whenRunning (s.keySettled_ringsPass _)
    · exact .refl s
  case wakeTimerExpiry zone => exact walk.onZone s.wakeExpired_ringsPass zone
  case standbyTimerExpiry zone => exact walk.onZone s.standbyExpired_ringsPass zone
  case houseClockLost => exact walk.whenRunning (by
    unfold clockLost
    dsimp only
    split <;> exact .same rfl rfl)
  case houseClockReturned => exact walk.whenRunning (by unfold clockReturned; split <;> exact .same rfl rfl)
  case houseClockLock => exact walk.whenRunning (by
    unfold clockLock
    dsimp only
    split <;> exact .same rfl rfl)
  case houseClockMove => exact walk.whenRunning (by
    unfold clockMoveDue clockMove
    (repeat' split) <;> exact .same rfl rfl)
  case storeWriteDone => exact walk.whenRunning (endWrite_ringsPass _ _ s)
  case storeWriteFailed left => exact walk.whenRunning (endWrite_ringsPass _ _ s)
  case storeStageTimeout left => exact walk.whenRunning (endWrite_ringsPass _ _ s)
  case rstLLow => exact .same rfl rfl
  case powerLoss => exact powerDown_ringsPass s
  case startUpSequence =>
    split
    · exact startUp_ringsPass s
    · exact startUp_ringsPass s
    · exact .refl s
  case restartSequence => exact walk.whenRunning (restartDue_ringsPass s)
  case samplePeriod ain => exact walk.whenRunning (.same rfl rfl)

/-! ### Every step (O57) -/

theorem step_ringsPass {s t : State} (h : step s = .next t) : RingsPass s t :=
  ringsPass_carried.step (fun _ _ => .same rfl rfl) event_ringsPass h

/-- Settles O57: a frame result and a block tend a zone's list (`Tended`), a notch request keeps it sound and stores its
FIXED notches, and a start-up sets up what the working copy holds; all else leaves the rings alone. -/
theorem ringLawsKept : Obligations.RingLawsKept := by
  unfold Obligations.RingLawsKept
  intro s t h
  have pass := step_ringsPass h
  rw [notchesTrue_iff, notchesTrue_iff]
  exact ⟨fun held z => pass.notches z (held z), fun margins z => pass.margin z (margins z)⟩

end Sys2Proof.Machine

namespace Sys2Proof.Machine
open Sys2Proof.Safety

/-! ## SET-EQ (R171, R173) -/

/-! ### The band forms -/

theorem bandKind?_code (k : BandKind) : bandKind? (bandKindCode k) = some k := by
  cases k <;> rfl

theorem bandKind?_of_three_lt {n : Nat} (h : 3 < n) : bandKind? n = none := by
  unfold bandKind?
  split <;> simp_all

/-- A band of no kind is refused whatever else it carries (R173). -/
theorem eqBand?_unknown {b : BandForm} (h : bandKind? b.kind = none) : eqBand? b = none := by
  simp [eqBand?, h]

/-- A band that takes a gain is stored with the one it carries, or 0 (R171). -/
theorem eqBand?_gained {k : BandKind} (hk : k ≠ .highPass) (frequency width : Nat) (gain : Option Int) :
    eqBand? { kind := bandKindCode k, frequency := frequency, gain := gain, width := width } =
      some
        { kind := k, frequency := clampFrequency frequency, gain := some (clampBandGain (gain.getD 0))
          width := clampBandWidth width } := by
  cases k with
  | highPass => exact absurd rfl hk
  | peak | lowShelf | highShelf => rfl

theorem bandClamped_iff (b : BandForm) :
    bandClamped b = true ↔
      b.frequency < 20 ∨ 20000 < b.frequency ∨ (∃ g, b.gain = some g ∧ (g < -60 ∨ 48 < g)) ∨ b.width < 1
        ∨ 40 < b.width := by
  have frequency : clampChanges clampFrequency (some b.frequency) = true ↔ b.frequency < 20 ∨ 20000 < b.frequency :=
    (clampChanges_some _ _).trans (clampNat_ne (by decide))
  have gain : clampChanges clampBandGain b.gain = true ↔ ∃ g, b.gain = some g ∧ (g < -60 ∨ 48 < g) :=
    clampChanges_int (by decide) b.gain
  have width : clampChanges clampBandWidth (some b.width) = true ↔ b.width < 1 ∨ 40 < b.width :=
    (clampChanges_some _ _).trans (clampNat_ne (by decide))
  rw [bandClamped, Bool.or_eq_true, Bool.or_eq_true, frequency, gain, width, or_assoc, or_assoc]

/-! ### The band list -/

theorem all?_eq_some {α β : Type} {f : α → Option β} {as : List α} {bs : List β} (h : as.map f = bs.map some) :
    all? f as = some bs := by
  induction as generalizing bs with
  | nil =>
    obtain rfl : bs = [] := by simpa using h.symm
    rfl
  | cons a as ih =>
    cases bs with
    | nil => simp at h
    | cons b bs =>
      obtain ⟨head, tail⟩ := List.cons.inj h
      rw [all?, head, ih tail]

theorem acceptBands?_accepted {bands : List BandForm} {stored : List EqBand} (few : bands.length ≤ 4)
    (each : bands.map eqBand? = stored.map some) : acceptBands? bands = some stored := by
  rw [acceptBands?, if_neg (Nat.not_lt.mpr few), all?_eq_some each]

/-- Too many bands, or one that no preset can hold, refuse the list (R173). -/
theorem acceptBands?_refused {bands : List BandForm} (h : 4 < bands.length ∨ ∃ b ∈ bands, eqBand? b = none) :
    acceptBands? bands = none := by
  rcases h with many | band
  · rw [acceptBands?, if_pos many]
  · rw [acceptBands?, all?_eq_none band, ite_self]

/-! ### The request, and the presets (R171, R173) -/

theorem takeSetEq_range {n : Nat} (h : outside 15 n) (bands : List BandForm) (s : State) :
    takeSetEq n bands s = (s, plain .range) := by
  simp [takeSetEq, number?_outside h]

theorem takeSetEq_refused {bands : List BandForm} (h : acceptBands? bands = none) (p : Fin 15) (s : State) :
    takeSetEq (p.1 + 1) bands s = (s, plain .range) := by
  simp [takeSetEq, h]

theorem takeSetEq_accepted {bands : List BandForm} {stored : List EqBand} (h : acceptBands? bands = some stored)
    (p : Fin 15) (s : State) :
    takeSetEq (p.1 + 1) bands s =
      (s.setWorking { s.store.working with presets := s.store.working.presets.set p stored },
        plain (okStatus (bands.any bandClamped))) := by
  simp [takeSetEq, h]

theorem bandsOf_zero (w : WorkingCopy) : bandsOf w 0 = [] :=
  rfl

theorem bandsOf_succ (w : WorkingCopy) {p : PresetIx} {k : Fin 15} (h : p.1 = k.1 + 1) :
    bandsOf w p = w.presets.get k := by
  rw [bandsOf, h, number?_succ]

/-- The bands at work have the responses of R171: they are the part's own filters. -/
theorem runBand_response : ∃ level, EqResponse runBand level := by
  rw [show runBand = Config.filterBank.eq from funext runBand_eq]
  exact Config.filterBank.eq_response

theorem runBand_flat {b : EqBand} (kind : b.kind ≠ .highPass) (gain : b.gain = some 0) (m : FilterMemory) (x : Int) :
    (runBand b m x).2 = x := by
  rw [runBand_eq]
  exact Config.filterBank.eq_flat b m x kind gain

/-- Settles O40: the request by R173's checks, each band form as it is stored or refused, what is clamped, then the
presets and the filters that the bands are. -/
theorem setEqReplacesPreset : Obligations.SetEqReplacesPreset := by
  unfold Obligations.SetEqReplacesPreset
  refine ⟨fun s hs bands => ⟨fun n h => exec_answered hs rfl (takeSetEq_range h bands s), fun p =>
      ⟨fun h => exec_answered hs rfl (takeSetEq_refused (acceptBands?_refused h) p s), fun stored few each =>
        exec_answered hs rfl (takeSetEq_accepted (acceptBands?_accepted few each) p s)⟩⟩,
    fun frequency width gain => ⟨fun _ => rfl, rfl, fun kind h => eqBand?_unknown (bandKind?_of_three_lt h),
      fun k hk => eqBand?_gained hk frequency width gain⟩,
    bandClamped_iff, fun w => ⟨bandsOf_zero w, fun p k => bandsOf_succ w⟩, runBand_response,
    fun b m x kind gain => runBand_flat kind gain m x⟩

end Sys2Proof.Machine

namespace Sys2Proof.Machine
open Sys2Proof.Safety

/-! ## The clock (O43) -/

/-! ### SET-CLOCK (R179) -/

theorem setting?_code (v : ClockSetting) : setting? (settingCode v) = some v := by
  cases v <;> rfl

theorem setting?_of_one_lt {n : Nat} (h : 1 < n) : setting? n = none := by
  unfold setting?
  split <;> simp_all

/-- R179's table: the setting held already, INTERNAL, FOLLOW with the house clock present for a second, FOLLOW
without. -/
theorem Clock.withSetting_eq (c : Clock) (v : ClockSetting) :
    c.withSetting v =
      if c.setting = v then c
      else if v = .internal then
        { c with setting := .internal, status := .internal, source := .internal, moving := false }
      else if c.present = true ∧ 48000 ≤ c.timePresent then
        { c with setting := .follow, status := .locked, moving := true }
      else { c with setting := .follow, status := .fallback } := by
  cases v <;> rfl

theorem takeSetClock_range {n : Nat} (h : 1 < n) (s : State) : takeSetClock n s = (s, plain .range) := by
  simp [takeSetClock, setting?_of_one_lt h]

theorem takeSetClock_setting (v : ClockSetting) (s : State) :
    takeSetClock (settingCode v) s =
      (s.setClock (s.signal.clock.withSetting v),
        some (.ok, u8 (clockStatusCode (s.signal.clock.withSetting v).status))) := by
  simp [takeSetClock, setting?_code]

/-! ### The house clock's events (R177, R178) -/

/-- An event row that a running part takes. -/
theorem exec_event {i : Instr} {f : State → State} {s t : State} (hr : s.run = .running)
    (he : exec i s = .next (whenRunning f s)) (h : f s = t) : exec i s = .next t := by
  rw [he, whenRunning_running hr, h]

section HouseClock

variable {s : State}

theorem clockLost_locked (present : s.signal.clock.present = true) (locked : s.signal.clock.status = .locked) :
    clockLost s =
      (s.setClock
        { s.signal.clock with
          present := false, timePresent := 0, status := .fallback, source := .internal, moving := false }).raise
        .clock := by
  simp [clockLost, present, locked]

theorem clockLost_unlocked (present : s.signal.clock.present = true) (unlocked : s.signal.clock.status ≠ .locked) :
    clockLost s = s.setClock { s.signal.clock with present := false, timePresent := 0 } := by
  cases status : s.signal.clock.status with
  | locked => exact absurd status unlocked
  | internal | fallback => simp [clockLost, present, status]

theorem clockLost_absent (absent : s.signal.clock.present = false) : clockLost s = s := by
  simp [clockLost, absent]

theorem clockReturned_present (present : s.signal.clock.present = true) : clockReturned s = s := by
  simp [clockReturned, present]

theorem clockReturned_absent (absent : s.signal.clock.present = false) :
    clockReturned s = s.setClock { s.signal.clock with present := true, timePresent := 0 } := by
  simp [clockReturned, absent]

theorem clockLock_fallback (present : s.signal.clock.present = true) (fallback : s.signal.clock.status = .fallback) :
    clockLock s =
      (s.setClock { s.signal.clock with timePresent := 48000, status := .locked, moving := true }).raise .clock := by
  simp [clockLock, oneSecond, present, fallback]

theorem clockLock_settled (present : s.signal.clock.present = true) (settled : s.signal.clock.status ≠ .fallback) :
    clockLock s = s.setClock { s.signal.clock with timePresent := 48000 } := by
  cases status : s.signal.clock.status with
  | fallback => exact absurd status settled
  | internal | locked => simp [clockLock, oneSecond, present, status]

theorem clockLock_absent (absent : s.signal.clock.present = false) : clockLock s = s := by
  simp [clockLock, absent]

/-- The waiting move is made once the samples of the block under way have come (R178). -/
theorem clockMoveDue_made (waiting : s.signal.clock.moving = true) (ended : 32 ≤ s.signal.elapsed) :
    clockMoveDue s = s.setClock { s.signal.clock with source := .house, moving := false } := by
  simp [clockMoveDue, clockMove, waiting, ended]

theorem clockMoveDue_not_yet (h : s.signal.clock.moving = false ∨ s.signal.elapsed < 32) : clockMoveDue s = s := by
  rcases h with still | early
  · simp [clockMoveDue, clockMove, still]
  · exact if_neg (Nat.not_le.mpr early)

end HouseClock

/-- Settles O43: SET-CLOCK by R179's table, then each event by the presence and the status it finds. -/
theorem clockFollowsHouseClock : Obligations.ClockFollowsHouseClock := by
  unfold Obligations.ClockFollowsHouseClock
  rintro s c rfl
  refine ⟨fun hs => ⟨fun n h => exec_answered hs rfl (takeSetClock_range h s), fun v after table => ?_⟩, fun hr => ?_⟩
  · rw [table, ← Clock.withSetting_eq]
    exact exec_answered hs rfl (takeSetClock_setting v s)
  · exact ⟨fun present => ⟨fun locked => exec_event hr rfl (clockLost_locked present locked),
        fun unlocked => exec_event hr rfl (clockLost_unlocked present unlocked),
        fun fallback => exec_event hr rfl (clockLock_fallback present fallback),
        fun settled => exec_event hr rfl (clockLock_settled present settled)⟩,
      fun absent => exec_event hr rfl (clockReturned_absent absent),
      fun waiting ended => exec_event hr rfl (clockMoveDue_made waiting ended),
      fun h => exec_event hr rfl (clockMoveDue_not_yet h),
      fun absent => ⟨exec_event hr rfl (clockLost_absent absent), exec_event hr rfl (clockLock_absent absent)⟩,
      fun present => exec_event hr rfl (clockReturned_present present)⟩

end Sys2Proof.Machine

namespace Sys2Proof.Machine
open Sys2Proof.Safety

/-! ## Numbers as bytes (R193) -/

theorem byte_toNat {n : Nat} (h : n < 256) : (BitVec.ofNat 8 n).toNat = n := by
  rw [BitVec.toNat_ofNat]
  exact Nat.mod_eq_of_lt h

/-- The two bytes of a number in a body, put together again, are the number modulo 65,536. -/
theorem wordAt_word {bs : List Byte} {k n : Nat} (high : bs.getD k 0 = BitVec.ofNat 8 (n / 256))
    (low : bs.getD (k + 1) 0 = BitVec.ofNat 8 n) : wordAt bs k = n % 65536 := by
  rw [wordAt, high, low, BitVec.toNat_ofNat, BitVec.toNat_ofNat]
  omega

/-- The two bytes of a signed number in a body, put together again, are the number modulo 65,536. -/
theorem wordAt_signed {bs : List Byte} {k : Nat} {x : Int}
    (high : bs.getD k 0 = BitVec.ofNat 8 ((x % 65536).toNat / 256))
    (low : bs.getD (k + 1) 0 = BitVec.ofNat 8 (x % 65536).toNat) : (wordAt bs k : Int) = x % 65536 := by
  rw [wordAt_word high low]
  omega

theorem flagCode_le_one (b : Bool) : flagCode b ≤ 1 := by
  cases b <;> decide

/-! ## The route record image (O5) -/

theorem slotStateCode_lt (st : SlotState) : slotStateCode st < 256 := by
  cases st <;> decide

theorem causeCode_getD_lt (c : Option HaltCause) : (c.map causeCode).getD 0 < 256 := by
  rcases c with _ | (_ | _ | _) <;> decide

/-- The six flags of a record image share one byte (R194). -/
theorem presence_six (a b c d e f : Bool) :
    presence [a, b, c, d, e, f] =
      [BitVec.ofNat 8
        (flagCode a + 2 * flagCode b + 4 * flagCode c + 8 * flagCode d + 16 * flagCode e + 32 * flagCode f)] := by
  simp only [presence, u8, List.foldr]
  congr 2
  omega

theorem sixFlags_lt (a b c d e f : Bool) :
    flagCode a + 2 * flagCode b + 4 * flagCode c + 8 * flagCode d + 16 * flagCode e + 32 * flagCode f < 256 := by
  have := flagCode_le_one a
  have := flagCode_le_one b
  have := flagCode_le_one c
  have := flagCode_le_one d
  have := flagCode_le_one e
  have := flagCode_le_one f
  omega

/-- The record image by R194's table. -/
theorem routeImage_eq (k : SlotIx) (r : Route) :
    routeImage k r =
      [BitVec.ofNat 8 k.1, BitVec.ofNat 8 (r.input.1 + 1), BitVec.ofNat 8 (r.zone.1 + 1),
       BitVec.ofNat 8 (slotStateCode (slotState r.state)),
       BitVec.ofNat 8
        (flagCode r.armed + 2 * flagCode r.flip + 4 * flagCode r.limited + 8 * flagCode r.pending.isSome
          + 16 * flagCode r.live.delay.isSome + 32 * flagCode r.staged.delay.isSome),
       BitVec.ofNat 8 ((r.cause.map causeCode).getD 0)]
      ++ signedBytes r.current ++ signedBytes r.target ++ wordBytes r.delay ++ wordBytes (r.pending.getD 0)
      ++ signedBytes r.live.level ++ [BitVec.ofNat 8 r.live.rate, BitVec.ofNat 8 r.live.preset.1]
      ++ wordBytes (r.live.delay.getD 0)
      ++ signedBytes r.staged.level ++ [BitVec.ofNat 8 r.staged.rate, BitVec.ofNat 8 r.staged.preset.1]
      ++ wordBytes (r.staged.delay.getD 0) := by
  rw [routeImage, presence_six]
  rfl

/-- Settles O5: the image is written out by R194's table, so each of its places is the number written there, in one byte
or in two. -/
theorem routeImageLaidOut : Obligations.RouteImageLaidOut := by
  unfold Obligations.RouteImageLaidOut
  refine ⟨fun s name k r hs h => exec_answered hs rfl (onRoute_ok h _), fun k r => ?_⟩
  simp only [routeImage_eq, signedBytes, wordBytes, List.cons_append, List.nil_append]
  exact ⟨rfl, byte_toNat k.isLt, byte_toNat (by omega), byte_toNat (by omega), byte_toNat (slotStateCode_lt _),
    byte_toNat (sixFlags_lt _ _ _ _ _ _), byte_toNat (causeCode_getD_lt _), wordAt_signed rfl rfl,
    wordAt_signed rfl rfl, wordAt_word rfl rfl, wordAt_word rfl rfl, wordAt_signed rfl rfl,
    BitVec.toNat_ofNat _ _, byte_toNat (by omega), wordAt_word rfl rfl, wordAt_signed rfl rfl,
    BitVec.toNat_ofNat _ _, byte_toNat (by omega), wordAt_word rfl rfl⟩

/-! ## NOTICES and SET-NOTICE-MASK (O47) -/

theorem noticesBody_eq (p : Port) :
    noticesBody p =
      [BitVec.ofNat 8 (p.notices.toNat / 256), BitVec.ofNat 8 p.notices.toNat,
       if p.lastNotify = none then 0 else 1, BitVec.ofNat 8 ((p.lastNotify.map Fin.val).getD 0)] := by
  unfold noticesBody
  cases p.lastNotify <;> rfl

/-- With no notice in the set ATTN_L is released, whatever the mask (R189, R190). -/
theorem takeNotices_eq (s : State) :
    takeNotices s =
      ({ s with port := { s.port with notices := 0, attnLow := false } }, some (.ok, noticesBody s.port)) := by
  have released : attention 0 s.port.mask = false := by simp [attention]
  rw [takeNotices, Port.refreshAttn, released]
  rfl

/-- A word has an unused bit exactly where it is 8,192 or more: the notice word has 13 bits (10.6). -/
theorem unusedNoticeBit_iff (w : Word16) : w >>> 13 ≠ 0 ↔ 8192 ≤ w.toNat := by
  have shifted : w >>> 13 = 0 ↔ w.toNat / 8192 = 0 := by
    rw [← BitVec.toNat_inj, BitVec.toNat_ushiftRight, Nat.shiftRight_eq_div_pow]
    rfl
  rw [Ne, shifted]
  omega

theorem takeSetNoticeMask_range {w : Word16} (h : 8192 ≤ w.toNat) (s : State) :
    takeSetNoticeMask w s = (s, plain .range) :=
  if_pos ((unusedNoticeBit_iff w).mpr h)

theorem takeSetNoticeMask_word {w : Word16} (h : w.toNat < 8192) (s : State) :
    takeSetNoticeMask w s =
      ({ s with
          port :=
            { s.port with
              mask := w.setWidth 13
              attnLow := decide (s.port.notices &&& w.setWidth 13 ≠ 0) } },
        some (.ok, [BitVec.ofNat 8 (w.toNat / 256), BitVec.ofNat 8 w.toNat])) := by
  have used : ¬ w >>> 13 ≠ 0 := fun unused => absurd ((unusedNoticeBit_iff w).mp unused) (by omega)
  have word : (w.setWidth 13).toNat = w.toNat := by
    rw [BitVec.toNat_setWidth]
    exact Nat.mod_eq_of_lt h
  rw [takeSetNoticeMask, if_neg used, noticeWord, word]
  rfl

/-- Settles O47: each request by its owner's answer; one sent during a scan does not reach its owner. -/
theorem noticesReadAndMasked : Obligations.NoticesReadAndMasked := by
  unfold Obligations.NoticesReadAndMasked
  refine ⟨fun s p hr hunting released hp => ?_, fun s hs => ⟨?_,
    fun w h => exec_answered hs rfl (takeSetNoticeMask_range h s),
    fun w h => exec_answered hs rfl (takeSetNoticeMask_word h s)⟩⟩
  · exact congrArg _ (onRequest_busy hr ((listening_iff _).mpr ⟨hunting, released⟩) hp _ _)
  · rw [← noticesBody_eq]
    exact exec_answered hs rfl (takeNotices_eq s)

end Sys2Proof.Machine

namespace Sys2Proof.Machine
open Sys2Proof.Safety

/-! ## The framing phase, byte by byte (O44) -/

section Framing

variable {s : State}

theorem receiveByte_lost (driving : s.port.driver = true) (b : Byte) : receiveByte b s = s := by
  simp [receiveByte, driving]

theorem receiveByte_hunting (released : s.port.driver = false) (hunting : s.port.phase = .hunting) (b : Byte) :
    receiveByte b s = if b = MARK then s.setPort (s.port.collect []) else s := by
  simp [receiveByte, released, hunting]

theorem receiveByte_discarding (released : s.port.driver = false) (discarding : s.port.phase = .discarding) (b : Byte) :
    receiveByte b s = s.setPort { s.port with partFrame := [], gap := some 0 } := by
  simp [receiveByte, released, discarding, Port.discard]

theorem receiveByte_collecting (released : s.port.driver = false) (collecting : s.port.phase = .collecting) (b : Byte) :
    receiveByte b s = keepByte b s := by
  simp [receiveByte, released, collecting]

theorem goodLength_iff (b : Byte) : goodLength b = true ↔ 1 ≤ b.toNat ∧ b.toNat ≤ 250 := by
  simp [goodLength]

theorem keepByte_length (begun : s.port.partFrame = []) (b : Byte) :
    keepByte b s = if goodLength b then s.setPort (s.port.collect [b]) else s.setPort s.port.discard := by
  simp [keepByte, begun]

theorem keepByte_more {len : Byte} {kept : List Byte} (part : s.port.partFrame = len :: kept)
    (short : kept.length ≠ len.toNat) (b : Byte) :
    keepByte b s = s.setPort (s.port.collect (len :: (kept ++ [b]))) := by
  simp [keepByte, part, short]

/-- The byte that completes a frame: the port hunts again before the frame is taken (R183). -/
theorem keepByte_last {len : Byte} {kept : List Byte} (part : s.port.partFrame = len :: kept)
    (whole : kept.length = len.toNat) {b : Byte} {u : State}
    (taken : u = completeFrame (len :: (kept ++ [b])) (s.setPort s.port.hunt)) :
    keepByte b s = u.setPort u.port.beginAnswer := by
  simp [keepByte, part, whole, taken]

theorem gapTimeout_hunting (hunting : s.port.phase = .hunting) : gapTimeout s = s := by
  simp [gapTimeout, hunting]

theorem gapTimeout_at_work (atWork : s.port.phase ≠ .hunting) : gapTimeout s = s.setPort s.port.hunt.beginAnswer := by
  unfold gapTimeout
  split
  · contradiction
  · rfl
  · rfl

/-- A port that hunts begins an answer exactly where one waits (R181). -/
theorem Port.beginAnswer_hunting {p : Port} (hunting : p.phase = .hunting) :
    p.beginAnswer = { p with driver := p.driver || !p.answers.isEmpty } := by
  unfold Port.beginAnswer
  split
  · next waiting => simp [waiting]
  · next empty => rw [empty, List.isEmpty_nil, Bool.not_true, Bool.or_false, ← empty]
  all_goals simp_all

/-- A port whose driver is released begins an answer exactly where it hunts and one waits (R181). -/
theorem Port.beginAnswer_released {p : Port} (released : p.driver = false) :
    p.beginAnswer = { p with driver := decide (p.phase = .hunting) && !p.answers.isEmpty } := by
  by_cases hunting : p.phase = .hunting
  · rw [Port.beginAnswer_hunting hunting, released, decide_eq_true hunting, Bool.true_and, Bool.false_or]
  · rw [Port.beginAnswer_of_not_hunting hunting, decide_eq_false hunting, Bool.false_and, ← released]

theorem restartAfter_eq (a : Answer) (r : RestartState) :
    restartAfter a r = if r = .answering ∧ a.kind = 0x49 ∧ a.status = .ok then .due else r := by
  cases r with
  | answering => simp [restartAfter]
  | none | due => rfl

theorem answerSent_sending {a : Answer} {rest : List Answer} (driving : s.port.driver = true)
    (waiting : s.port.answers = a :: rest) :
    answerSent s =
      s.setPort
        { s.port with
          answers := rest
          driver := decide (s.port.phase = .hunting) && !rest.isEmpty
          restart := restartAfter a s.port.restart } := by
  unfold answerSent
  rw [driving, waiting]
  exact congrArg s.setPort (Port.beginAnswer_released rfl)

end Framing

/-- Settles O44: a byte by the driver, the phase and what is kept of the frame, then the gap timer and the end of an
answer. -/
theorem bytesMakeFrames : Obligations.BytesMakeFrames := by
  unfold Obligations.BytesMakeFrames
  intro s hr
  refine ⟨fun b driving => exec_event hr rfl (receiveByte_lost driving b), fun b released hunting => ?_,
    fun b released discarding => exec_event hr rfl ?_, fun b released collecting begun => ?_,
    fun b len kept released collecting part => ⟨fun short => exec_event hr rfl ?_, fun whole u taken =>
      exec_event hr rfl ((receiveByte_collecting released collecting b).trans (keepByte_last part whole taken))⟩,
    fun atWork => exec_event hr rfl ?_, fun hunting => exec_event hr rfl (gapTimeout_hunting hunting),
    fun a rest driving waiting => exec_event hr rfl ?_⟩
  · rw [exec_event hr rfl (receiveByte_hunting released hunting b)]
    exact apply_ite _ _ _ _
  · exact receiveByte_discarding released discarding b
  · rw [exec_event hr rfl ((receiveByte_collecting released collecting b).trans (keepByte_length begun b)),
      apply_ite Host.Outcome.next, if_congr (goodLength_iff b) rfl rfl]
    simp [State.setPort, Port.collect, Port.discard, collecting]
  · rw [receiveByte_collecting released collecting, keepByte_more part short]
    simp [State.setPort, Port.collect, collecting]
  · rw [gapTimeout_at_work atWork, Port.beginAnswer_hunting rfl]
    rfl
  · rw [answerSent_sending driving waiting, restartAfter_eq]
    rfl

/-! ## A complete frame (O45) -/

theorem byteSum_append (xs ys : List Byte) : byteSum (xs ++ ys) = byteSum xs + byteSum ys := by
  induction xs with
  | nil => simp [byteSum]
  | cons x xs ih => simpa [byteSum, BitVec.add_assoc] using ih

/-- The CHECK byte makes the sum of a frame 0 (R185). -/
theorem byteSum_check (xs : List Byte) : byteSum (xs ++ [-byteSum xs]) = 0 := by
  rw [byteSum_append]
  simp [byteSum]

/-- A frame with its CHECK is taken with its KIND and body (R185). -/
theorem completeFrame_frameOf {kind : Byte} {body bytes : List Byte} (h : frameOf (kind :: body) = MARK :: bytes)
    (s : State) : completeFrame bytes s = takeFrame kind body s := by
  obtain ⟨-, rfl⟩ := List.cons.inj h
  have sum := byteSum_check (u8 (kind :: body).length ++ kind :: body)
  change (if _ then takeFrame kind (body ++ [_]).dropLast s else _) = _
  rw [if_pos sum, List.dropLast_concat]

theorem completeFrame_badSum {len kind : Byte} {rest : List Byte} (h : byteSum (len :: kind :: rest) ≠ 0)
    (s : State) :
    completeFrame (len :: kind :: rest) s = answered s kind .badFrame [] :=
  if_neg h

section Checks

variable {s : State} {kind : Byte} {body : List Byte}

theorem takeFrame_busy {p : InProgress} (working : s.port.inProgress = some p) :
    takeFrame kind body s = answered s kind .busy [] := by
  simp [takeFrame, working, State.refuseFrame, answered]

theorem takeFrame_unknown (free : s.port.inProgress = none) (unknown : kind ∉ knownKinds) :
    takeFrame kind body s = answered s kind .unknown [] := by
  simp [takeFrame, free, unknown, State.refuseFrame, answered]

theorem takeFrame_range (free : s.port.inProgress = none) (known : kind ∈ knownKinds)
    (formless : parseBody kind body = none) : takeFrame kind body s = answered s kind .range [] := by
  simp [takeFrame, free, known, bodyOwner, formless, State.refuseFrame, answered]

theorem takeFrame_owner (free : s.port.inProgress = none) (known : kind ∈ knownKinds)
    {owner : State → State × Reply} (owned : bodyOwner kind body = some owner) :
    takeFrame kind body s = takeRequest kind owner s := by
  simp [takeFrame, free, known, owned]

end Checks

/-- The KINDs of the readers are those of the table (10.6). -/
theorem parseBody_known {kind : Byte} {body : List Byte} {i : Instr} (h : parseBody kind body = some i) :
    kind ∈ knownKinds := by
  unfold parseBody at h
  split at h
  · simp at h
  · next f hf =>
    obtain ⟨front, back, rows, -⟩ := List.lookup_eq_some_iff.mp hf
    have row : kind ∈ bodyReaders.map Prod.fst := by simp [rows]
    exact row

/-- What a body spells is a request of the frame's KIND, a KIND of the table, and some block owns it. -/
theorem parseBody_owned {kind : Byte} {body : List Byte} {i : Instr} (h : parseBody kind body = some i) :
    kind ∈ knownKinds ∧ ∃ owner, ownerOf i = some owner ∧ ∀ s, exec i s = .next (onRequest kind owner s) := by
  have ofKind := parseBody_kind h
  cases ho : ownerOf i with
  | none =>
    have event : kindOf i = none := by cases i <;> cases ho <;> rfl
    simp [event] at ofKind
  | some owner =>
    obtain ⟨k, hk, he⟩ := exec_request ho
    obtain rfl : k = kind := Option.some.inj (hk.symm.trans ofKind)
    exact ⟨parseBody_known h, owner, rfl, he⟩

/-- Settles O45: check by check; a frame that passes all reaches the owner that its request row reaches. -/
theorem framesCheckedInOrder : Obligations.FramesCheckedInOrder := by
  unfold Obligations.FramesCheckedInOrder
  refine fun s kind body hr => ⟨fun len rest h => completeFrame_badSum h s, fun bytes frame => ?_⟩
  rw [completeFrame_frameOf frame]
  refine ⟨fun p working => takeFrame_busy working, fun free => ⟨fun unknown => ⟨takeFrame_unknown free unknown,
    fun hunting released => ?_⟩, fun known formless => takeFrame_range free known formless,
    fun i spelled hunting released => ?_⟩⟩
  · have heard := onFrame_listening hr ((listening_iff _).mpr ⟨hunting, released⟩) (takeFrame kind body)
    exact congrArg _ (heard.trans (takeFrame_unknown free unknown))
  · obtain ⟨known, owner, owned, he⟩ := parseBody_owned spelled
    have bodyOwned : bodyOwner kind body = some owner := by simp [bodyOwner, spelled, owned]
    rw [he, onRequest, onFrame_listening hr ((listening_iff _).mpr ⟨hunting, released⟩),
      takeFrame_owner free known bodyOwned]

end Sys2Proof.Machine

namespace Sys2Proof.Machine
open Sys2Proof.Safety

/-! ## Requests read back as they were written (O46)

`Reads` ties a reader to the bytes that its writer gives; the proof for a body then goes through its reader field by
field. -/

/-- The reader takes just these bytes from the front of a body and gives this value. -/
def Reads {α : Type} (f : Reader α) (bs : List Byte) (a : α) : Prop :=
  ∀ rest, f (bs ++ rest) = some (a, rest)

namespace Reads

section Combinators

variable {α β : Type}

theorem pure_nil (a : α) : Reads (pure a) [] a := fun _ => rfl

theorem bind {f : Reader α} {g : α → Reader β} {xs ys : List Byte} {a : α} {b : β} (hf : Reads f xs a)
    (hg : Reads (g a) ys b) : Reads (f >>= g) (xs ++ ys) b := by
  intro rest
  have first : f (xs ++ (ys ++ rest)) = some (a, ys ++ rest) := hf _
  calc (f >>= g) (xs ++ ys ++ rest)
      = (f (xs ++ (ys ++ rest))).bind fun p => g p.1 p.2 := by rw [List.append_assoc]; rfl
    _ = some (b, rest) := by rw [first]; exact hg rest

/-- The last field of a body, after which the value is made. -/
theorem last {f : Reader α} {g : α → β} {xs : List Byte} {a : α} (hf : Reads f xs a) :
    Reads (f >>= fun x => pure (g x)) xs (g a) := by
  rw [← List.append_nil xs]
  exact hf.bind (pure_nil (g a))

theorem lastIs {f : Reader α} {g : α → β} {xs : List Byte} {a : α} {b : β} (hf : Reads f xs a) (value : g a = b) :
    Reads (f >>= fun x => pure (g x)) xs b :=
  value ▸ hf.last

theorem check {c : Bool} (h : c = true) : Reads (Reader.check c) [] () := by
  intro rest
  simp [Reader.check, h]

/-- A test passed on the way takes no byte. -/
theorem checked {c : Bool} {f : Reader α} {xs : List Byte} {a : α} (h : c = true) (hf : Reads f xs a) :
    Reads (Reader.check c >>= fun _ => f) xs a :=
  (check h).bind hf

end Combinators

/-! ### Fields of one and two bytes -/

theorem byte (b : Byte) : Reads Reader.byte [b] b := fun _ => rfl

theorem n8 {n : Nat} (h : fitsByte n = true) : Reads Reader.n8 (u8 n) n :=
  (byte _).lastIs (byte_toNat (of_decide_eq_true h))

theorem n16 {n : Nat} (h : fitsWord n = true) : Reads Reader.n16 (u16 n) n := by
  have small : n < 65536 := of_decide_eq_true h
  have value : 256 * (BitVec.ofNat 8 (n / 256)).toNat + (BitVec.ofNat 8 n).toNat = n := by
    rw [BitVec.toNat_ofNat, BitVec.toNat_ofNat]
    omega
  exact (byte _).bind ((byte _).lastIs value)

theorem i16 {x : Int} (h : decide (-32768 ≤ x) = true ∧ decide (x ≤ 32767) = true) :
    Reads Reader.i16 (s16 x) x := by
  have low : -32768 ≤ x := of_decide_eq_true h.1
  have high : x ≤ 32767 := of_decide_eq_true h.2
  have fits : fitsWord (x % 65536).toNat = true := decide_eq_true (by omega)
  refine (n16 fits).lastIs ?_
  split <;> omega

end Reads

/-! ### Presence bytes and optional fields (R193) -/

/-- The presence bits of optional fields as one number, bit 0 for the first. -/
def presenceBits (fields : List Bool) : Nat :=
  fields.foldr (fun b n => flagCode b + 2 * n) 0

theorem presenceBits_lt (fields : List Bool) : presenceBits fields < 2 ^ fields.length := by
  induction fields with
  | nil => exact Nat.one_pos
  | cons b fields ih =>
    have bit := flagCode_le_one b
    change flagCode b + 2 * presenceBits fields < 2 ^ (fields.length + 1)
    omega

theorem presenceBits_testBit (fields : List Bool) (k : Nat) :
    (presenceBits fields).testBit k = fields.getD k false := by
  induction fields generalizing k with
  | nil => simp [presenceBits]
  | cons b fields ih =>
    have cons : presenceBits (b :: fields) = Nat.bit b (presenceBits fields) := by
      rw [Nat.bit_val]
      cases b <;> simp [presenceBits, flagCode, Nat.add_comm]
    cases k with
    | zero => rw [cons, Nat.testBit_bit_zero, List.getD_cons_zero]
    | succ k => rw [cons, Nat.testBit_bit_succ, ih, List.getD_cons_succ]

/-- The presence byte of optional fields. -/
def presenceByte (fields : List Bool) : Byte :=
  BitVec.ofNat 8 (presenceBits fields)

/-- Each bit of a presence byte says whether its field is present. -/
theorem presenceByte_getLsbD (fields : List Bool) {k : Nat} (h : k < 8) :
    (presenceByte fields).getLsbD k = fields.getD k false := by
  rw [presenceByte, BitVec.getLsbD_ofNat, presenceBits_testBit, decide_eq_true h, Bool.true_and]

theorem ifPresent_getD (x : Option Nat) : ifPresent x.isSome (x.getD 0) = x := by
  cases x <;> rfl

namespace Reads

theorem bits (fields : List Bool) : Reads Reader.byte (presence fields) (presenceByte fields) :=
  byte _

theorem presenceOf (n : Nat) {fields : List Bool} (named : fields.length = n := by rfl) :
    Reads (Reader.presenceOf n) (presence fields) (presenceByte fields) := by
  have few : (presenceByte fields).toNat < 2 ^ n := by
    subst named
    exact lt_of_le_of_lt (BitVec.toNat_ofNat _ _ ▸ Nat.mod_le _ _) (presenceBits_lt fields)
  rw [← List.append_nil (presence fields)]
  exact (bits fields).bind (checked (decide_eq_true few) (pure_nil _))

section Optional

variable {α : Type}

theorem opt {f : Reader α} {w : α → List Byte} {fits : α → Bool} (hf : ∀ a, fits a = true → Reads f (w a) a)
    {x : Option α} (h : fitsOpt fits x = true) : Reads (Reader.opt f x.isSome) (optField w x) x := by
  cases x with
  | none => exact pure_nil none
  | some a => exact (hf a h).last

/-- An optional field, read where its bit of the presence byte says. -/
theorem field {f : Reader α} {w : α → List Byte} {fits : α → Bool} (hf : ∀ a, fits a = true → Reads f (w a) a)
    {x : Option α} (h : fitsOpt fits x = true) {fields : List Bool} {k : Nat}
    (bit : k < 8 ∧ fields.getD k false = x.isSome) :
    Reads (Reader.opt f ((presenceByte fields).getLsbD k)) (optField w x) x := by
  rw [presenceByte_getLsbD fields bit.1, bit.2]
  exact opt hf h

end Optional

section Named

variable {fields : List Bool} {k : Nat}

theorem field8 {x : Option Nat} (h : fitsOpt fitsByte x = true)
    (bit : k < 8 ∧ fields.getD k false = x.isSome := by exact ⟨by decide, rfl⟩) :
    Reads (Reader.opt Reader.n8 ((presenceByte fields).getLsbD k)) (optField u8 x) x :=
  field (fun _ => n8) h bit

theorem field16 {x : Option Nat} (h : fitsOpt fitsWord x = true)
    (bit : k < 8 ∧ fields.getD k false = x.isSome := by exact ⟨by decide, rfl⟩) :
    Reads (Reader.opt Reader.n16 ((presenceByte fields).getLsbD k)) (optField u16 x) x :=
  field (fun _ => n16) h bit

theorem fieldSigned {x : Option Int} (h : fitsOpt fitsSigned x = true)
    (bit : k < 8 ∧ fields.getD k false = x.isSome := by exact ⟨by decide, rfl⟩) :
    Reads (Reader.opt Reader.i16 ((presenceByte fields).getLsbD k)) (optField s16 x) x :=
  field (fun _ signed => i16 (Bool.and_eq_true_iff.mp signed)) h bit

theorem fieldByte {x : Option Byte}
    (bit : k < 8 ∧ fields.getD k false = x.isSome := by exact ⟨by decide, rfl⟩) :
    Reads (Reader.opt Reader.byte ((presenceByte fields).getLsbD k)) (optField (fun b => [b]) x) x :=
  field (fits := fun _ => true) (fun b _ => byte b) (by cases x <;> rfl) bit

end Named

/-! ### Lists and texts (R193) -/

theorem items {α : Type} {f : Reader α} {w : α → List Byte} {as : List α} (h : ∀ a ∈ as, Reads f (w a) a) :
    Reads (Reader.items f as.length) (as.flatMap w) as := by
  induction as with
  | nil => exact pure_nil []
  | cons a as ih =>
    rw [List.flatMap_cons]
    exact (h a List.mem_cons_self).bind (ih fun b hb => h b (List.mem_cons_of_mem a hb)).last

theorem list {α : Type} {f : Reader α} {w : α → List Byte} {as : List α} (short : as.length < 256)
    (h : ∀ a ∈ as, Reads f (w a) a) : Reads (Reader.list f) (listField w as) as :=
  (n8 (decide_eq_true short)).bind (items h)

theorem character {b : Byte} (h : isCharacter b = true) : Reads Reader.character [b] b :=
  (byte b).bind (checked h (pure_nil b))

theorem text {t : List Byte} (short : t.length < 256) (h : ∀ b ∈ t, isCharacter b = true) :
    Reads (Reader.list Reader.character) (textField t) t := by
  have read := list short (w := fun b => [b]) fun b hb => character (h b hb)
  rwa [listField, List.flatMap_singleton'] at read

end Reads

/-! ### The fields that requests share -/

theorem slot_toFin (k : SlotIx) : (BitVec.ofNat 8 k.1).toFin = k :=
  Fin.ext (byte_toNat k.isLt)

theorem readName_reads {n : RouteName} (wf : n.wellFormed = true) : Reads readName (nameBytes n) n := by
  cases n with
  | slot k =>
    intro rest
    change some (RouteName.slot (BitVec.ofNat 8 k.1).toFin, rest) = _
    rw [slot_toFin]
  | key i z =>
    obtain ⟨hi, hz⟩ := Bool.and_eq_true_iff.mp wf
    intro rest
    change some (RouteName.key (BitVec.ofNat 8 i).toNat (BitVec.ofNat 8 z).toNat, rest) = _
    rw [byte_toNat (of_decide_eq_true hi), byte_toNat (of_decide_eq_true hz)]

/-- A value of the selector is written as 0 where it is absent (R194). -/
theorem fitsByte_getD {x : Option Nat} (h : fitsOpt fitsByte x = true) : fitsByte (x.getD 0) = true := by
  cases x with
  | none => rfl
  | some n => exact h

theorem readSelector_reads {f : SelectorForm} (wf : f.wellFormed = true) : Reads readSelector (selectorBytes f) f := by
  simp only [SelectorForm.wellFormed, Bool.and_eq_true] at wf
  obtain ⟨⟨⟨⟨⟨⟨⟨input, zone⟩, precinct⟩, cls⟩, state⟩, armed⟩, cause⟩, limited⟩ := wf
  simp only [selectorBytes, List.append_assoc]
  refine (Reads.bits _).bind <| (Reads.n8 (fitsByte_getD input)).bind <|
    (Reads.n8 (fitsByte_getD zone)).bind <| (Reads.n8 (fitsByte_getD precinct)).bind <|
    (Reads.n8 (fitsByte_getD cls)).bind <| (Reads.n8 (fitsByte_getD state)).bind <|
    (Reads.n8 (fitsByte_getD armed)).bind <| (Reads.n8 (fitsByte_getD cause)).bind <|
    (Reads.n8 (fitsByte_getD limited)).lastIs ?_
  simp only [presenceByte_getLsbD, Nat.reduceLT, List.getD_cons_zero, List.getD_cons_succ, ifPresent_getD]

theorem readBand_reads {b : BandForm} (wf : b.wellFormed = true) : Reads readBand (bandBytes b) b := by
  simp only [BandForm.wellFormed, Bool.and_eq_true] at wf
  obtain ⟨⟨⟨kind, frequency⟩, gain⟩, width⟩ := wf
  simp only [bandBytes, List.append_assoc]
  exact (Reads.n8 kind).bind <| (Reads.n16 frequency).bind <| (Reads.n8 width).bind <| (Reads.presenceOf 1).bind <|
    (Reads.fieldSigned gain).last

/-! ### Cue entries (R72) -/

theorem readEntry_reads {e : EntryForm} (wf : e.wellFormed = true) : Reads readEntry (entryBytes e) e := by
  cases e with
  | place i z level rate preset delay =>
    simp only [EntryForm.wellFormed, Bool.and_eq_true] at wf
    obtain ⟨⟨⟨⟨⟨input, zone⟩, level⟩, rate⟩, preset⟩, delay⟩ := wf
    simp only [entryBytes, List.append_assoc]
    exact (Reads.n8 (n := 0) rfl).bind <| (Reads.n8 input).bind <| (Reads.n8 zone).bind <| (Reads.i16 level).bind <|
      (Reads.presenceOf 3).bind <| (Reads.field8 rate).bind <| (Reads.field8 preset).bind <|
      (Reads.field16 delay).last
  | set i z level rate preset delay geometric =>
    simp only [EntryForm.wellFormed, Bool.and_eq_true] at wf
    obtain ⟨⟨⟨⟨⟨input, zone⟩, level⟩, rate⟩, preset⟩, delay⟩ := wf
    simp only [entryBytes, List.append_assoc]
    refine (Reads.n8 (n := 1) rfl).bind <| (Reads.n8 input).bind <| (Reads.n8 zone).bind <|
      (Reads.presenceOf 5).bind <| (Reads.fieldSigned level).bind <| (Reads.field8 rate).bind <|
      (Reads.field8 preset).bind <| (Reads.field16 delay).lastIs ?_
    rw [presenceByte_getLsbD _ (by decide)]
    rfl
  | retire i z =>
    obtain ⟨input, zone⟩ := Bool.and_eq_true_iff.mp wf
    simp only [entryBytes, List.append_assoc]
    exact (Reads.n8 (n := 2) rfl).bind <| (Reads.n8 input).bind (Reads.n8 zone).last
  | zone z on =>
    obtain ⟨zone, on⟩ := Bool.and_eq_true_iff.mp wf
    simp only [entryBytes, List.append_assoc]
    exact (Reads.n8 (n := 3) rfl).bind <| (Reads.n8 zone).bind (Reads.n8 on).last
  | notify => exact fun _ => rfl
  | unknown kind => cases wf

/-! ### The bodies of the requests -/

theorem readOne_reads (f : Nat → Instr) {a : Nat} (ha : fitsByte a = true) : Reads (readOne f) (u8 a) (f a) :=
  (Reads.n8 ha).last

theorem readTwo_reads (f : Nat → Nat → Instr) {a b : Nat} (wf : (fitsByte a && fitsByte b) = true) :
    Reads (readTwo f) (u8 a ++ u8 b) (f a b) := by
  obtain ⟨ha, hb⟩ := Bool.and_eq_true_iff.mp wf
  exact (Reads.n8 ha).bind (Reads.n8 hb).last

theorem readNamed_reads (f : RouteName → Instr) {n : RouteName} (wf : n.wellFormed = true) :
    Reads (readNamed f) (nameBytes n) (f n) :=
  (readName_reads wf).last

/-- A request is read back from its frame's KIND and body as it was written. -/
def ReadBack (i : Instr) : Prop :=
  ∀ kind body, requestBody i = some (kind, body) → parseBody kind body = some i

theorem ReadBack.of_reads {i : Instr} {kind : Byte} {body : List Byte} {f : Reader Instr}
    (written : requestBody i = some (kind, body)) (row : bodyReaders.lookup kind = some f) (h : Reads f body i) :
    ReadBack i := by
  intro k b e
  obtain ⟨rfl, rfl⟩ := Prod.mk.inj (Option.some.inj (written.symm.trans e))
  have whole : f body = some (i, []) := List.append_nil body ▸ h []
  simp only [parseBody, row, whole]

/-- No frame carries an event. -/
theorem ReadBack.of_event {i : Instr} (h : requestBody i = none) : ReadBack i := by
  intro kind body e
  simp [h] at e

theorem placeRoute_readBack {i z : Nat} {level : Int} {rate preset delay : Option Nat}
    (wf : (Instr.placeRoute i z level rate preset delay).wellFormed = true) :
    ReadBack (.placeRoute i z level rate preset delay) := by
  simp only [Instr.wellFormed, Bool.and_eq_true] at wf
  obtain ⟨⟨⟨⟨⟨input, zone⟩, level⟩, rate⟩, preset⟩, delay⟩ := wf
  refine .of_reads rfl rfl ?_
  simp only [List.append_assoc]
  exact (Reads.n8 input).bind <| (Reads.n8 zone).bind <| (Reads.i16 level).bind <| (Reads.presenceOf 3).bind <|
    (Reads.field8 rate).bind <| (Reads.field8 preset).bind <| (Reads.field16 delay).last

theorem stageRoute_readBack {n : RouteName} {base : Nat} {f : StageFields}
    (wf : (Instr.stageRoute n base f).wellFormed = true) : ReadBack (.stageRoute n base f) := by
  simp only [Instr.wellFormed, StageFields.wellFormed, Bool.and_eq_true] at wf
  obtain ⟨⟨name, base⟩, ⟨⟨level, rate⟩, preset⟩, delay⟩ := wf
  refine .of_reads rfl rfl ?_
  simp only [List.append_assoc]
  refine (readName_reads name).bind <| (Reads.n8 base).bind <| (Reads.presenceOf 5).bind <|
    (Reads.fieldSigned level).bind <| (Reads.field8 rate).bind <| (Reads.field8 preset).bind <|
    (Reads.field16 delay).lastIs ?_
  rw [presenceByte_getLsbD _ (by decide)]
  rfl

theorem writeCue_readBack {c : Nat} {form : CueForm} (wf : (Instr.writeCue c form).wellFormed = true) :
    ReadBack (.writeCue c form) := by
  obtain ⟨cue, form_wf⟩ := Bool.and_eq_true_iff.mp wf
  cases form with
  | undefine =>
    refine .of_reads rfl rfl ((Reads.n8 cue).bind ?_)
    rw [← List.append_nil (presence _)]
    exact (Reads.presenceOf 3).bind (Reads.pure_nil _)
  | define label entries =>
    simp only [CueForm.wellFormed, Bool.and_eq_true, decide_eq_true_eq, List.all_eq_true] at form_wf
    obtain ⟨⟨⟨shortLabel, characters⟩, shortList⟩, entries⟩ := form_wf
    refine .of_reads rfl rfl ?_
    simp only [List.append_assoc]
    exact (Reads.n8 cue).bind <| (Reads.presenceOf 3).bind <| Reads.checked rfl <|
      (Reads.text (by omega) characters).bind <|
      (Reads.list (by omega) fun e he => readEntry_reads (entries e he)).last

theorem findRoutes_readBack {k : SlotIx} {c m : Nat} {f : SelectorForm}
    (wf : (Instr.findRoutes k c m f).wellFormed = true) : ReadBack (.findRoutes k c m f) := by
  simp only [Instr.wellFormed, Bool.and_eq_true] at wf
  obtain ⟨⟨count, mode⟩, selector⟩ := wf
  refine .of_reads rfl rfl ?_
  simp only [List.append_assoc]
  refine (Reads.byte _).bind <| (Reads.n16 count).bind <| (Reads.n8 mode).bind <|
    (readSelector_reads selector).lastIs ?_
  rw [slot_toFin]

theorem sweepRoutes_readBack {k : SlotIx} {c a : Nat} {f : SelectorForm} {level : Option Int}
    (wf : (Instr.sweepRoutes k c a f level).wellFormed = true) : ReadBack (.sweepRoutes k c a f level) := by
  simp only [Instr.wellFormed, Bool.and_eq_true, beq_iff_eq] at wf
  obtain ⟨⟨⟨⟨count, action⟩, selector⟩, level⟩, present⟩ := wf
  refine .of_reads rfl rfl ?_
  simp only [List.append_assoc]
  refine (Reads.byte _).bind <| (Reads.n16 count).bind <| (Reads.n8 action).bind <|
    (readSelector_reads selector).bind ?_
  rw [← present]
  refine (Reads.opt (fun _ signed => Reads.i16 (Bool.and_eq_true_iff.mp signed)) level).lastIs ?_
  rw [slot_toFin]

theorem setInput_readBack {i : Nat} {f : InputFields} (wf : (Instr.setInput i f).wellFormed = true) :
    ReadBack (.setInput i f) := by
  simp only [Instr.wellFormed, InputFields.wellFormed, Bool.and_eq_true] at wf
  obtain ⟨input, ⟨⟨⟨⟨⟨⟨cls, mode⟩, precinct⟩, station⟩, trim⟩, threshold⟩, closedAtt⟩, hold⟩ := wf
  refine .of_reads rfl rfl ?_
  simp only [List.append_assoc]
  exact (Reads.n8 input).bind <| (Reads.presenceOf 8).bind <| (Reads.field8 cls).bind <| (Reads.field8 mode).bind <|
    (Reads.field8 precinct).bind <| (Reads.field8 station).bind <| (Reads.fieldSigned trim).bind <|
    (Reads.fieldSigned threshold).bind <| (Reads.fieldSigned closedAtt).bind <| (Reads.field16 hold).last

theorem setPrecinct_readBack {p : Nat} {maxnom lastOn : Option Nat}
    (wf : (Instr.setPrecinct p maxnom lastOn).wellFormed = true) : ReadBack (.setPrecinct p maxnom lastOn) := by
  simp only [Instr.wellFormed, Bool.and_eq_true] at wf
  obtain ⟨⟨precinct, maxnom⟩, lastOn⟩ := wf
  refine .of_reads rfl rfl ?_
  simp only [List.append_assoc]
  exact (Reads.n8 precinct).bind <| (Reads.presenceOf 2).bind <| (Reads.field8 maxnom).bind (Reads.field8 lastOn).last

theorem setZone_readBack {z : Nat} {f : ZoneFields} (wf : (Instr.setZone z f).wellFormed = true) :
    ReadBack (.setZone z f) := by
  simp only [Instr.wellFormed, ZoneFields.wellFormed, Bool.and_eq_true] at wf
  obtain ⟨zone, ⟨⟨⟨⟨⟨⟨⟨⟨⟨⟨⟨⟨home, ceiling⟩, trim⟩, duck⟩, precedence⟩, standbyDelay⟩, wakeTime⟩, installLive⟩, key⟩,
    cueSafe⟩, ringWatch⟩, ringThreshold⟩, persistence⟩, release⟩ := wf
  refine .of_reads rfl rfl ?_
  simp only [zoneFieldBytes, List.append_assoc]
  refine (Reads.n8 zone).bind <| (Reads.bits _).bind <| (Reads.bits _).bind <| (Reads.field8 home).bind <|
    (Reads.fieldByte (x := f.listen)).bind <| (Reads.fieldSigned ceiling).bind <| (Reads.fieldSigned trim).bind <|
    (Reads.fieldSigned duck).bind <| (Reads.field16 precedence).bind <| (Reads.field16 standbyDelay).bind <|
    (Reads.field8 wakeTime).bind <| (Reads.field8 installLive).bind <| (Reads.field8 key).bind <|
    (Reads.field8 cueSafe).bind <| (Reads.field8 ringWatch).bind <| (Reads.fieldSigned ringThreshold).bind <|
    (Reads.field8 persistence).bind <| (Reads.field16 release).lastIs ?_
  rw [presenceByte_getLsbD _ (by decide)]
  rfl

theorem setGeometry_readBack {st z d : Nat} (wf : (Instr.setGeometry st z d).wellFormed = true) :
    ReadBack (.setGeometry st z d) := by
  simp only [Instr.wellFormed, Bool.and_eq_true] at wf
  obtain ⟨⟨station, zone⟩, distance⟩ := wf
  refine .of_reads rfl rfl ?_
  simp only [List.append_assoc]
  exact (Reads.n8 station).bind <| (Reads.n8 zone).bind (Reads.n16 distance).last

theorem pinNotch_readBack {z b w : Nat} {d : Int} (wf : (Instr.pinNotch z b d w).wellFormed = true) :
    ReadBack (.pinNotch z b d w) := by
  simp only [Instr.wellFormed, Bool.and_eq_true] at wf
  obtain ⟨⟨⟨zone, bin⟩, depth⟩, width⟩ := wf
  refine .of_reads rfl rfl ?_
  simp only [List.append_assoc]
  exact (Reads.n8 zone).bind <| (Reads.n16 bin).bind <| (Reads.i16 depth).bind (Reads.n8 width).last

theorem setEq_readBack {p : Nat} {bands : List BandForm} (wf : (Instr.setEq p bands).wellFormed = true) :
    ReadBack (.setEq p bands) := by
  simp only [Instr.wellFormed, Bool.and_eq_true, decide_eq_true_eq (p := bands.length < 250), List.all_eq_true] at wf
  obtain ⟨⟨preset, short⟩, each⟩ := wf
  exact .of_reads rfl rfl <| (Reads.n8 preset).bind
    (Reads.list (by omega) fun b hb => readBand_reads (each b hb)).last

theorem setNoticeMask_readBack (w : Word16) : ReadBack (.setNoticeMask w) := by
  refine .of_reads rfl rfl ((Reads.byte _).bind ((Reads.byte _).lastIs (congrArg _ ?_)))
  apply BitVec.eq_of_toNat_eq
  rw [BitVec.toNat_append, BitVec.toNat_ofNat, BitVec.toNat_ofNat, ← Nat.shiftLeft_add_eq_or_of_lt (by omega),
    Nat.shiftLeft_eq]
  omega

/-- Settles O46: request by request, its body read field by field as `requestBody` wrote it; no frame carries an
event. -/
theorem requestRoundTrip : Obligations.RequestRoundTrip := by
  unfold Obligations.RequestRoundTrip
  intro i kind body wf
  suffices ReadBack i from this kind body
  cases i with
  | placeRoute => exact placeRoute_readBack wf
  | readRoute | retireRoute | armRoute | haltRoute | clearRoute => exact .of_reads rfl rfl (readNamed_reads _ wf)
  | stageRoute => exact stageRoute_readBack wf
  | writeCue => exact writeCue_readBack wf
  | findRoutes => exact findRoutes_readBack wf
  | sweepRoutes => exact sweepRoutes_readBack wf
  | setInput => exact setInput_readBack wf
  | setPrecinct => exact setPrecinct_readBack wf
  | setZone => exact setZone_readBack wf
  | setGeometry => exact setGeometry_readBack wf
  | pinNotch => exact pinNotch_readBack wf
  | setEq => exact setEq_readBack wf
  | setNoticeMask => exact setNoticeMask_readBack _
  | readCue | fireCue | readInput | readPrecinct | readZone | readNotches | clearRing | readEq | setClock =>
    exact .of_reads rfl rfl (readOne_reads _ wf)
  | zoneLive | readGeometry | dropNotch => exact .of_reads rfl rfl (readTwo_reads _ wf)
  | readCueQueue | readCueResult | readClock | notices | store | restart =>
    exact .of_reads rfl rfl (Reads.pure_nil _)
  | _ => exact .of_event rfl

end Sys2Proof.Machine

namespace Sys2Proof.Machine
open Sys2Proof.Safety

/-! ## A part that does not run (O3) -/

theorem onZone_stopped {s : State} (h : s.run ≠ .running) (zone : Nat) (f : State → ZoneIx → State) :
    onZone zone f s = s := by
  unfold onZone
  split
  · exact whenRunning_stopped h _
  · rfl

theorem request_stopped {i : Instr} {owner : State → State × Reply} (hi : ownerOf i = some owner) {s : State}
    (h : s.run ≠ .running) : exec i s = .next s := by
  obtain ⟨kind, -, he⟩ := exec_request hi
  rw [he, onRequest_lost (.inl h)]

theorem event_stopped {i : Instr} (hi : ownerOf i = none) (unreached : reachesStopped i = false) {s : State}
    (h : s.run ≠ .running) : exec i s = .next s := by
  cases i <;> cases hi <;> cases unreached
  all_goals refine congrArg Host.Outcome.next ?_
  case unknownKindFrame => exact onFrame_lost (.inl h) _
  case keyDebounced =>
    split
    · exact whenRunning_stopped h _
    · rfl
  case frameResult | ampStatusDebounced | wakeTimerExpiry | standbyTimerExpiry => exact onZone_stopped h _ _
  all_goals exact whenRunning_stopped h _

/-- Settles O3: a request does not reach its owner, and an event that is not of the lines, reset or power is one that
only a running part takes. -/
theorem stoppedPartHoldsStill : Obligations.StoppedPartHoldsStill := by
  unfold Obligations.StoppedPartHoldsStill
  intro i s h unreached
  cases hi : ownerOf i with
  | some owner => exact request_stopped hi h
  | none => exact event_stopped hi unreached h

/-! ## STORE and its write (O48) -/

theorem takeStore_idle {s : State} (h : s.store.writing = none) :
    takeStore s =
      (s.setStore
        { s.store with writing := some s.store.working, flash := { s.store.flash with mark := erasedMark } },
        plain .started) := by
  simp [takeStore, h]

theorem takeStore_writing {s : State} (h : s.store.writing ≠ none) : takeStore s = (s, plain .busy) := by
  unfold takeStore
  split
  · rfl
  · next idle => exact absurd idle h

theorem endWrite_writing {s : State} {w : WorkingCopy} (h : s.store.writing = some w) (left : WorkingCopy → FlashImage)
    (n : Notice) :
    endWrite left n s = (s.setStore { s.store with writing := none, flash := left w }).raise n := by
  simp [endWrite, h]

/-- Settles O48: STORE by the store's state, then the two ends of a write. -/
theorem storeWritesItsSnapshot : Obligations.StoreWritesItsSnapshot := by
  unfold Obligations.StoreWritesItsSnapshot
  refine fun s => ⟨fun ready => ⟨fun idle => ?_, fun writing => ?_⟩, fun hr w writing => ⟨?_, fun left => ⟨?_, ?_⟩⟩⟩
  · exact exec_answered ready rfl (takeStore_idle idle)
  · exact exec_answered ready rfl (takeStore_writing writing)
  · exact exec_event hr rfl (endWrite_writing writing imageOf _)
  · exact exec_event hr rfl (endWrite_writing writing (fun _ => left) _)
  · exact exec_event hr rfl (endWrite_writing writing (fun _ => left) _)

end Sys2Proof.Machine

namespace Sys2Proof.Table

theorem forall_mem_cells {α : Type} {n : Nat} {p : α → Prop} {t : Table α n} :
    (∀ a ∈ t.cells, p a) ↔ ∀ i, p (t.get i) := by
  simp only [mem_cells, forall_exists_index, forall_apply_eq_imp_iff]

end Sys2Proof.Table

namespace Sys2Proof.Machine
open Sys2Proof.Safety

/-! ## The start-up sequence (O51) -/

/-! ### What it sets, block by block (R200) -/

/-- The notices that a start-up leaves raised: RESTARTED, and DEFAULTS where no image was loaded (R200). -/
def startNotices (f : FlashImage) : BitVec 13 :=
  if imageLoads f then 0x1000 else 0x1800

/-- The state is written out but for the notice word, which is worked out in the two cases of the image's checks. -/
theorem startUp_eq (s : State) :
    startUp s =
      { run := .running
        engine := RouteEngine.atStart
        gates := GateUnit.atStart
        power := startZones (loadedCopy s.store.flash) s.power
        ring := startRings (loadedCopy s.store.flash) (some 0)
        signal := SignalEngine.atPowerOn
        port := { Port.atStart with notices := startNotices s.store.flash, attnLow := true }
        store := { working := loadedCopy s.store.flash, flash := s.store.flash, writing := none }
        pending := s.pending } := by
  cases h : imageLoads s.store.flash <;>
    simp only [startUp, State.raiseIf, State.raise, Port.refreshAttn, Port.atStart, startNotices, h, Bool.not_true,
      Bool.not_false, if_true, if_false, Bool.false_eq_true, State.mk.injEq, Port.mk.injEq, true_and, and_true] <;>
    decide

theorem exec_startUp_stopped {s : State} (h : s.run ≠ .running) : exec .startUpSequence s = .next (startUp s) := by
  refine congrArg Host.Outcome.next ?_
  split
  · rfl
  · rfl
  · next hr => exact absurd hr h

theorem exec_startUp_running {s : State} (h : s.run = .running) : exec .startUpSequence s = .next s := by
  refine congrArg Host.Outcome.next ?_
  simp [h]

/-- On the factory defaults a start-up with healthy lines and keys off leaves every zone in STANDBY and dead (R141). -/
theorem startZones_factory {p : ZoneController} (amps : ∀ z, (p.amps.get z).raw = true)
    (keys : ∀ k, (p.keys.get k).raw = false) : startZones factoryDefaults p = State.reset.power := by
  unfold startZones State.reset
  congr 1
  · refine Table.ext_get fun z => ?_
    simp [factoryDefaults, startZone, factoryZone, ZoneLive.resting, amps]
  · exact Table.ext_get fun z => by simp [Line.sample, amps]
  · exact Table.ext_get fun k => by simp [Line.sample, keys]

theorem startRings_reset : (startRings factoryDefaults (some 0)).zones = State.reset.ring.zones :=
  Table.ext_get fun z => (startRings_factory _ z).trans (Table.get_fill _ z).symm

/-- The start-up of an erased flash with healthy lines and keys off is the machine right after reset (R199, R200). -/
theorem startUp_erased {s : State} (flash : s.store.flash = erasedFlash) (pending : s.pending = [])
    (amps : ∀ z, (s.power.amps.get z).raw = true) (keys : ∀ k, (s.power.keys.get k).raw = false) :
    startUp s = State.reset := by
  rw [startUp_eq, flash, pending, loadedCopy_erased, startZones_factory amps keys, startNotices, imageLoads_erased]
  exact congrArg (fun zones => { State.reset with ring := { State.reset.ring with zones } }) startRings_reset

end Sys2Proof.Machine

namespace Sys2Proof.Machine
open Sys2Proof.Safety

/-! ### The check sum and the four checks (R198) -/

theorem totalOf_toNat (bs : List Byte) : (totalOf bs).toNat = (bs.map BitVec.toNat).sum % 65536 := by
  induction bs with
  | nil => rfl
  | cons b bs ih =>
    have small : b.toNat < 65536 := by have := b.isLt; omega
    rw [totalOf, List.foldr_cons, ← totalOf, BitVec.toNat_add, ih]
    simp [Nat.mod_eq_of_lt small]

theorem imageSum_toNat (mark : Word16) (n : Snapshot) :
    (imageSum mark n).toNat =
      (mark.toNat / 256 + mark.toNat % 256 + ((Config.snapshotBytes n).map BitVec.toNat).sum) % 65536 := by
  have high : mark.toNat / 256 % 256 = mark.toNat / 256 := by have := mark.isLt; omega
  rw [imageSum, totalOf_toNat]
  simp [Nat.shiftRight_eq_div_pow, high, Nat.add_assoc]

theorem imageLoads_iff (f : FlashImage) :
    imageLoads f = true ↔
      f.answers = true ∧ f.mark = Config.imageMark
      ∧ f.sum.toNat =
          (f.mark.toNat / 256 + f.mark.toNat % 256 + ((Config.snapshotBytes f.snapshot).map BitVec.toNat).sum) % 65536
      ∧ snapshotAcceptable f.snapshot = true := by
  rw [← imageSum_toNat, ← BitVec.toNat_eq]
  simp only [imageLoads, Bool.and_eq_true, decide_eq_true_eq, and_assoc]

/-! ### Which stored records load (R198) -/

theorem mode?_eq_none (n : Nat) : mode? n = none ↔ 2 < n := by
  refine ⟨fun h => ?_, mode?_outside⟩
  by_contra low
  interval_cases n <;> cases h

theorem listen?_of_le {b : Byte} (h : b.toNat ≤ 15) : listen? b = some (b.setWidth 4) := by
  have : b >>> 4 = 0 := by
    rw [BitVec.toNat_eq]
    simp [Nat.shiftRight_eq_div_pow]
    omega
  rw [listen?, if_pos this]

/-- An input record whose codes and numbers name something loads with its quantities clamped. -/
theorem loadInput?_named {r : StoredInput} {c : InputClass} {m : InputMode} {p : PrecinctIx} {st : StationIx}
    (hc : class? r.cls = some c) (hm : mode? r.mode = some m) (hp : number? 4 r.precinct = some p)
    (hst : number? 16 r.station = some st) :
    loadInput? r =
      some
        { cls := c, mode := m, precinct := p, station := st, trim := clampInputTrim r.trim
          threshold := clampThreshold r.threshold, closedAtt := clampClosedAtt r.closedAtt
          hold := clampHold r.hold } := by
  simp [loadInput?, inputEdit?, optional?, hc, hm, hp, hst]

theorem loadInput?_isSome (r : StoredInput) :
    (loadInput? r).isSome = true ↔ r.cls ≤ 3 ∧ r.mode ≤ 2 ∧ ¬outside 4 r.precinct ∧ ¬outside 16 r.station := by
  constructor
  · intro h
    by_contra outOfRange
    refine Option.isSome_iff_ne_none.mp h (inputEdit?_refused ?_ _)
    simp only [Option.some.injEq, exists_eq_left']
    rw [not_and_or, not_and_or, not_and_or, not_le, not_le, not_not, not_not] at outOfRange
    exact outOfRange
  · rintro ⟨hc, hm, hp, hst⟩
    obtain ⟨c, hc⟩ := Option.ne_none_iff_exists'.mp (mt (class?_eq_none _).mp hc.not_gt)
    obtain ⟨m, hm⟩ := Option.ne_none_iff_exists'.mp (mt (mode?_eq_none _).mp hm.not_gt)
    obtain ⟨p, hp⟩ := Option.ne_none_iff_exists'.mp (mt number?_eq_none.mp hp)
    obtain ⟨st, hst⟩ := Option.ne_none_iff_exists'.mp (mt number?_eq_none.mp hst)
    rw [loadInput?_named hc hm hp hst]
    rfl

theorem loadPrecinct?_isSome (r : StoredPrecinct) : (loadPrecinct? r).isSome = true ↔ r.lastOn ≤ 1 := by
  rw [loadPrecinct?, Option.isSome_map, Option.isSome_iff_ne_none, Ne, flag?_eq_none, not_lt]

theorem keyEdit?_carried (key : Option Nat) : keyEdit? key false none = optional? (number? 16) key := by
  cases key <;> rfl

/-- A listen set that its home precinct is added to stays as it is where it holds the precinct (R126). -/
theorem withPrecinct_eq_self_iff (set : BitVec 4) (p : PrecinctIx) :
    withPrecinct set p = set ↔ listens set p = true := by
  revert set p
  decide

/-- A zone record whose codes and numbers name something loads with its quantities clamped, where its listen set holds
its home precinct (R126, R198). -/
theorem loadZone?_named {r : StoredZone} {home : PrecinctIx} {set : BitVec 4} {on safe watch : Bool}
    {key : Option KeyIx} (hh : number? 4 r.home = some home) (hl : listen? r.listen = some set)
    (ho : flag? r.installLive = some on) (hk : optional? (number? 16) r.key = some key)
    (hs : flag? r.cueSafe = some safe) (hw : flag? r.ringWatch = some watch) :
    loadZone? r =
      if listens set home then
        some
          { home := home, listen := set, ceiling := clampCeiling r.ceiling, trim := clampZoneTrim r.trim
            duck := clampDuck r.duck, precedence := clampPrecedence r.precedence
            standbyDelay := clampStandbyDelay r.standbyDelay, wakeTime := clampWakeTime r.wakeTime, installLive := on
            key := key, cueSafe := safe, ringWatch := watch, ringThreshold := clampRingThreshold r.ringThreshold
            persistence := clampPersistence r.persistence, release := clampRelease r.release }
      else none := by
  have key' : keyEdit? r.key false factoryZone.key = some key := (keyEdit?_carried _).trans hk
  have once := withPrecinct_eq_self_iff set home
  by_cases held : listens set home = true
  · simp [loadZone?, zoneEdit?, optional?, hh, hl, ho, key', hs, hw, held, once.mpr held]
  · have added : set ≠ withPrecinct set home := fun e => held (once.mp e.symm)
    simp [loadZone?, zoneEdit?, optional?, hh, hl, ho, key', hs, hw, held, added]

/-- Whether every code and number of a stored zone record names something (R125). -/
def zoneNamed (r : StoredZone) : Prop :=
  ¬outside 4 r.home ∧ r.listen.toNat ≤ 15 ∧ r.installLive ≤ 1 ∧ r.cueSafe ≤ 1 ∧ r.ringWatch ≤ 1
    ∧ ∀ k, r.key = some k → ¬outside 16 k

theorem loadZone?_unnamed {r : StoredZone} (h : ¬zoneNamed r) : loadZone? r = none := by
  rw [loadZone?, zoneEdit?_refused]
  by_contra fine
  simp only [Option.some.injEq, exists_eq_left', Bool.false_eq_true, or_false, not_or, not_exists, not_and, not_lt]
    at fine
  obtain ⟨home, listen, key, flags⟩ := fine
  exact h ⟨home, listen, flags _ (.inl rfl), flags _ (.inr (.inl rfl)), flags _ (.inr (.inr rfl)), key⟩

theorem loadZone?_isSome (r : StoredZone) :
    (loadZone? r).isSome = true ↔
      ¬outside 4 r.home ∧ r.listen.toNat ≤ 15 ∧ r.listen.getLsbD (r.home - 1) = true ∧ r.installLive ≤ 1
        ∧ r.cueSafe ≤ 1 ∧ r.ringWatch ≤ 1 ∧ ∀ k, r.key = some k → ¬outside 16 k := by
  suffices (loadZone? r).isSome = true ↔ zoneNamed r ∧ r.listen.getLsbD (r.home - 1) = true by
    rw [this, zoneNamed]
    tauto
  by_cases named : zoneNamed r
  · obtain ⟨hh, hl, ho, hs, hw, hk⟩ := id named
    obtain ⟨home, hh⟩ := Option.ne_none_iff_exists'.mp (mt number?_eq_none.mp hh)
    obtain ⟨on, ho⟩ := flag?_of_le_one ho
    obtain ⟨safe, hs⟩ := flag?_of_le_one hs
    obtain ⟨watch, hw⟩ := flag?_of_le_one hw
    obtain ⟨key, hk⟩ := Option.ne_none_iff_exists'.mp
      (mt (optional?_eq_none fun _ => number?_eq_none).mp fun ⟨k, e, out⟩ => hk k e out)
    have bit : listens (r.listen.setWidth 4) home = r.listen.getLsbD (r.home - 1) := by
      rw [number?_eq_some.mp hh, Nat.add_sub_cancel, listens, BitVec.getLsbD_setWidth, decide_eq_true home.2,
        Bool.true_and]
    rw [loadZone?_named hh (listen?_of_le hl) ho hk hs hw, bit]
    simp [named]
  · simp [loadZone?_unnamed named, named]

/-! ### Lists of stored records -/

theorem all?_isSome {α β : Type} (f : α → Option β) (as : List α) :
    (all? f as).isSome = true ↔ ∀ a ∈ as, f a ≠ none := by
  constructor
  · intro h a ha refused
    exact Option.isSome_iff_ne_none.mp h (all?_eq_none ⟨a, ha, refused⟩)
  · intro h
    induction as with
    | nil => rfl
    | cons a as ih =>
      obtain ⟨head, tail⟩ := List.forall_mem_cons.mp h
      obtain ⟨b, hb⟩ := Option.ne_none_iff_exists'.mp head
      obtain ⟨bs, hbs⟩ := Option.isSome_iff_exists.mp (ih tail)
      simp [all?, hb, hbs]

theorem eqBand?_ne_none (b : BandForm) : eqBand? b ≠ none ↔ b.kind ≤ 3 ∧ (b.kind = 3 → b.gain = none) := by
  obtain ⟨kind, frequency, gain, width⟩ := b
  by_cases known : kind ≤ 3
  · interval_cases kind <;> cases gain <;> simp [eqBand?, bandKind?]
  · have unknown : bandKind? kind = none := bandKind?_of_three_lt (not_le.mp known)
    simp [eqBand?, unknown, known]

theorem acceptBands?_isSome (bands : List BandForm) :
    (acceptBands? bands).isSome = true ↔
      bands.length ≤ 4 ∧ ∀ b ∈ bands, b.kind ≤ 3 ∧ (b.kind = 3 → b.gain = none) := by
  unfold acceptBands?
  split
  · next many => simp [not_le.mpr many]
  · next few => simp only [all?_isSome, eqBand?_ne_none, not_lt.mp few, true_and]

theorem loadCue?_isSome (r : StoredCue) :
    (loadCue? r).isSome = true ↔
      r.label.length ≤ 12 ∧ r.label.all isCharacter = true ∧ r.entries.length ≤ 16
        ∧ ∀ e ∈ r.entries, cueEntry? e ≠ none := by
  rw [← all?_isSome, loadCue?, acceptCue?]
  cases each : all? cueEntry? r.entries with
  | none => simp
  | some es =>
    dsimp only
    split
    · next refused =>
      refine iff_of_false (by simp) fun ⟨short, text, few, _⟩ => ?_
      rw [text] at refused
      simp [not_lt.mpr short, not_lt.mpr few] at refused
    · next accepted =>
      simp only [not_or, not_lt, Bool.not_eq_true, Bool.not_eq_false'] at accepted
      obtain ⟨short, few, text⟩ := accepted
      exact iff_of_true rfl ⟨short, text, few, rfl⟩

theorem notchesApart?_iff (ns : List StoredNotch) : notchesApart? ns = true ↔ ns.Pairwise storedApart := by
  refine ⟨pairwise_of_notchesApart?, fun h => ?_⟩
  induction h with
  | nil => rfl
  | cons first _ ih =>
    refine Bool.and_eq_true_iff.mpr ⟨List.all_eq_true.mpr fun m hm => ?_, ih⟩
    obtain ⟨slot, bins⟩ := first m hm
    simp only [binsClose, Bool.and_eq_true, Bool.not_eq_true', decide_eq_true_eq, Bool.and_eq_false_iff,
      decide_eq_false_iff_not, not_le]
    exact ⟨slot.symm, bins.symm⟩

theorem notchAcceptable_iff (n : StoredNotch) : notchAcceptable n = true ↔ n.slot ≤ 7 ∧ 4 ≤ n.bin ∧ n.bin ≤ 511 := by
  simp only [notchAcceptable, Bool.and_eq_true, decide_eq_true_eq, and_assoc]

/-! ### The third check as a whole -/

/-- The third check, record by record (R198). -/
theorem snapshotAcceptable_iff (n : Snapshot) :
    snapshotAcceptable n = true ↔
      (∀ i, (loadInput? (n.inputs.get i)).isSome = true)
      ∧ (∀ p, (loadPrecinct? (n.precincts.get p)).isSome = true)
      ∧ (∀ z, (loadZone? (n.zones.get z)).isSome = true)
      ∧ (∀ p, (acceptBands? (n.presets.get p)).isSome = true)
      ∧ (∀ c v, n.cues.get c = some v → (loadCue? v).isSome = true)
      ∧ n.cues.get 0 ≠ none
      ∧ ∀ z, (∀ m ∈ n.notches.get z, notchAcceptable m = true) ∧ (n.notches.get z).Pairwise storedApart := by
  simp only [snapshotAcceptable, Bool.and_eq_true, and_assoc, Option.all_eq_true,
    Option.isSome_iff_ne_none (o := n.cues.get 0), List.all_eq_true, Table.forall_mem_cells, notchesApart?_iff]

/-! ### A stored working copy (R196, R198) -/

theorem loadInput?_stored (v : InputSettings) : loadInput? (storedInput v) = some (clampInput v) :=
  loadInput?_named (class?_code _) (mode?_code _) (number?_succ _) (number?_succ _)

theorem loadPrecinct?_stored (v : PrecinctSettings) : loadPrecinct? (storedPrecinct v) = some (clampPrecinct v) := by
  simp [loadPrecinct?, storedPrecinct, flag?_code, clampPrecinct]

theorem loadZone?_stored (v : ZoneSettings) :
    loadZone? (storedZone v) = if listens v.listen v.home then some (clampZone v) else none :=
  loadZone?_named (number?_succ _) (listen?_code _) (flag?_code _) (optional?_number _) (flag?_code _) (flag?_code _)

theorem eqBand?_stored (b : EqBand) (h : b.kind = .highPass → b.gain = none) :
    eqBand? (storedBand b) = some (clampBand b) := by
  by_cases hk : b.kind = .highPass
  · simp [storedBand, eqBand?, bandKind?_code, clampBand, hk, h hk]
  · rw [storedBand, eqBand?_gained hk]
    simp [clampBand, hk]

theorem bandsAcceptable_iff (bs : List EqBand) :
    bandsAcceptable bs = true ↔ bs.length ≤ 4 ∧ ∀ b ∈ bs, b.kind = .highPass → b.gain = none := by
  simp only [bandsAcceptable, Bool.and_eq_true, decide_eq_true_eq, List.all_eq_true, Bool.or_eq_true,
    Option.isNone_iff_eq_none, Decidable.imp_iff_not_or, ne_eq]

theorem acceptBands?_stored {bs : List EqBand} (h : bandsAcceptable bs = true) :
    acceptBands? (bs.map storedBand) = some (bs.map clampBand) := by
  obtain ⟨few, each⟩ := (bandsAcceptable_iff bs).mp h
  refine acceptBands?_accepted (by simpa using few) ?_
  rw [List.map_map, List.map_map]
  exact List.map_congr_left fun b hb => eqBand?_stored b (each b hb)

theorem bandsAcceptable_of_stored {bs : List EqBand} (h : (acceptBands? (bs.map storedBand)).isSome = true) :
    bandsAcceptable bs = true := by
  obtain ⟨few, each⟩ := (acceptBands?_isSome _).mp h
  refine (bandsAcceptable_iff bs).mpr ⟨by simpa using few, fun b hb highPass => ?_⟩
  exact (each _ (List.mem_map_of_mem hb)).2 (congrArg bandKindCode highPass)

theorem cueEntry?_stored (e : CueEntry) : cueEntry? (storedEntry e) = some (clampEntry e) := by
  cases e with
  | place => exact cueEntry?_place _ _ _ _ _ _
  | set i z level rate preset delay => cases delay <;> exact cueEntry?_set _ _ _ _ _ _ _
  | retire => simp [storedEntry, cueEntry?, clampEntry]
  | zone => simp [storedEntry, cueEntry?, clampEntry, flag?_code]
  | notify => rfl

/-- A stored cue loads as WRITE-CUE takes it, which is where WRITE-CUE would take it at all (R73). -/
theorem loadCue?_stored (v : Cue) :
    loadCue? (storedCue v) = if cueAcceptable v then some (clampCue v) else none := by
  have entries : all? cueEntry? (v.entries.map storedEntry) = some (v.entries.map clampEntry) :=
    all?_eq_some (by
      rw [List.map_map, List.map_map]
      exact List.map_congr_left fun e _ => cueEntry?_stored e)
  have label : storedLabel (v.label.getD []) = v.label.bind storedLabel := by cases v.label <;> rfl
  have refused : (12 < (v.label.getD []).length ∨ 16 < (v.entries.map storedEntry).length
      ∨ (!(v.label.getD []).all isCharacter) = true) ↔ ¬cueAcceptable v = true := by
    simp only [cueAcceptable, Bool.and_eq_true, decide_eq_true_eq, List.length_map, Bool.not_eq_true',
      Bool.eq_false_iff, ← not_le]
    tauto
  rw [loadCue?, storedCue, acceptCue?, entries]
  dsimp only
  rw [if_congr refused rfl rfl, ite_not, label]
  rfl

theorem mem_listedNotches {t : Table (Option FixedNotch) 8} {m : StoredNotch} :
    m ∈ listedNotches t ↔
      ∃ k f, t.get k = some f ∧ m = { slot := k.1, bin := f.bin, depth := f.depth, width := f.width } := by
  simp only [listedNotches, List.mem_filterMap, List.mem_finRange, true_and, Option.map_eq_some_iff,
    eq_comm (b := m)]

/-- A zone's FIXED notches load into their slots, each clamped (R161, R198). -/
theorem loadNotches_listed (t : Table (Option FixedNotch) 8) :
    loadNotches (listedNotches t) = t.map (Option.map clampNotch) := by
  refine Table.ext_get fun k => ?_
  rw [loadNotches, Table.get_ofFn, Table.get_map]
  cases found : (listedNotches t).find? fun m => m.slot = k.1 with
  | none =>
    cases held : t.get k with
    | none => rfl
    | some f => simpa using List.find?_eq_none.mp found _ (mem_listedNotches.mpr ⟨k, f, held, rfl⟩)
  | some m =>
    obtain ⟨j, f, held, rfl⟩ := mem_listedNotches.mp (List.mem_of_find?_eq_some found)
    obtain rfl : j = k := Fin.ext (by simpa using List.find?_some found)
    rw [held]
    rfl

/-- A snapshot that passes the third check loads as the working copy it was taken of, clamped (R198). -/
theorem loadSnapshot_snapshotOf {w : WorkingCopy} (h : snapshotAcceptable (snapshotOf w) = true) :
    loadSnapshot (snapshotOf w) = clampWorking w := by
  obtain ⟨-, -, zones, presets, cues, -, -⟩ := (snapshotAcceptable_iff _).mp h
  simp only [snapshotOf, Table.get_map, loadZone?_stored] at zones presets cues
  unfold loadSnapshot clampWorking
  congr 1 <;> refine Table.ext_get fun i => ?_ <;> simp only [snapshotOf, Table.get_map]
  case e_inputs => rw [loadInput?_stored, Option.getD_some]
  case e_precincts => rw [loadPrecinct?_stored, Option.getD_some]
  case e_zones =>
    have home : listens (w.zones.get i).listen (w.zones.get i).home = true := by simpa using zones i
    rw [loadZone?_stored, if_pos home, Option.getD_some]
  case e_presets => rw [acceptBands?_stored (bandsAcceptable_of_stored (presets i)), Option.getD_some]
  case e_cues =>
    cases held : w.cues.get i with
    | none => rfl
    | some v =>
      have taken := cues i (storedCue v) (by rw [held]; rfl)
      rw [loadCue?_stored] at taken
      have acceptable : cueAcceptable v = true := by simpa using taken
      rw [Option.map_some, Option.bind_some, loadCue?_stored, if_pos acceptable, Option.map_some]
  case e_notches => exact loadNotches_listed _

/-- A working copy whose listen sets hold their home precincts, whose cues and band lists are within their counts,
whose cue 0 is defined and whose notches are apart and in range passes the third check as a snapshot (R198). -/
theorem snapshotOf_acceptable {w : WorkingCopy}
    (homes : ∀ z, listens (w.zones.get z).listen (w.zones.get z).home = true)
    (bands : ∀ p, bandsAcceptable (w.presets.get p) = true)
    (cues : ∀ c v, w.cues.get c = some v → cueAcceptable v = true) (first : w.cues.get 0 ≠ none)
    (notches : ∀ z, StoredSound (w.notches.get z)) : snapshotAcceptable (snapshotOf w) = true := by
  rw [snapshotAcceptable_iff]
  simp only [snapshotOf, Table.get_map]
  refine ⟨fun i => ?_, fun p => ?_, fun z => ?_, fun p => ?_, fun c v hv => ?_, ?_, fun z => ⟨fun m hm => ?_, ?_⟩⟩
  · rw [loadInput?_stored, Option.isSome_some]
  · rw [loadPrecinct?_stored, Option.isSome_some]
  · rw [loadZone?_stored, if_pos (homes z), Option.isSome_some]
  · rw [acceptBands?_stored (bands p), Option.isSome_some]
  · obtain ⟨u, hu, rfl⟩ := Option.map_eq_some_iff.mp hv
    rw [loadCue?_stored, if_pos (cues c u hu), Option.isSome_some]
  · rwa [Ne, Option.map_eq_none_iff]
  · obtain ⟨k, f, held, rfl⟩ := mem_listedNotches.mp hm
    obtain ⟨low, high, -, -⟩ := (notches z).range held
    exact (notchAcceptable_iff _).mpr ⟨Nat.le_of_lt_succ k.2, low, high⟩
  · rw [listedNotches, List.pairwise_filterMap]
    refine (List.nodup_finRange 8).imp fun {j k} ne m hm n hn => ?_
    obtain ⟨f, hf, rfl⟩ := Option.map_eq_some_iff.mp hm
    obtain ⟨g, hg, rfl⟩ := Option.map_eq_some_iff.mp hn
    exact ⟨Fin.val_ne_of_ne ne, (notches z).apart ne hf hg⟩

/-! ### The whole sequence -/

/-- A start-up reads a zone's key where the zone names one that is on (R141). -/
theorem startZone_keyLive (keys : Table Line 16) (v : ZoneSettings) (amp : Line) :
    (startZone keys v amp).keyLive = true ↔ ∃ k, v.key = some k ∧ (keys.get k).raw = true := by
  unfold startZone
  cases v.key <;> simp

theorem loadedCopy_of_loads {f : FlashImage} (h : imageLoads f = true) :
    loadedCopy f = loadSnapshot f.snapshot ∧ startNotices f = 0x1000 := by
  simp [loadedCopy, startNotices, h]

theorem loadedCopy_of_fails {f : FlashImage} (h : imageLoads f = false) :
    loadedCopy f = factoryDefaults ∧ startNotices f = 0x1800 := by
  simp [loadedCopy, startNotices, h]

theorem startRings_zone (w : WorkingCopy) (blocks : Option Nat) (z : ZoneIx) :
    (startRings w blocks).zones.get z = { Ring.quiet with notches := startNotches (w.notches.get z) } :=
  Table.get_map _ _ z

/-- Settles O51: the sequence's state is written out by `startUp_eq`, its tables read place by place; the checks are
those of `imageLoads_iff` and `snapshotAcceptable_iff`, and a snapshot loads record by record. -/
theorem startUpSetsThePart : Obligations.StartUpSetsThePart := by
  unfold Obligations.StartUpSetsThePart
  refine ⟨fun s h => ⟨startUp s, exec_startUp_stopped h, ?_⟩,
    fun s h flash pending amps keys => (exec_startUp_stopped h).trans
      (congrArg Host.Outcome.next (startUp_erased flash pending amps keys)),
    fun s => exec_startUp_running, imageLoads_iff, imageMark_ne,
    fun n => (snapshotAcceptable_iff n).trans ?_, fun w => loadSnapshot_snapshotOf⟩
  · rw [startUp_eq]
    refine ⟨rfl, loadedCopy_of_loads, loadedCopy_of_fails, rfl, rfl, rfl,
      fun z => ⟨_, Table.get_zipWith _ _ _ z, startZone_keyLive _ _ (s.power.amps.get z)⟩, fun z => Table.get_map _ _ z,
      fun k => Table.get_map _ _ k, fun k => Table.get_fill _ k, fun z => Table.get_fill _ z, rfl, rfl, rfl,
      fun i => Table.get_fill _ i, fun p => Table.get_fill _ p, fun z => ?_, fun z => ?_, rfl,
      fun z => Table.get_fill _ z, rfl, rfl, rfl⟩
    · rw [State.ringOf, startRings_zone]
      exact ⟨rfl, rfl, rfl, rfl, rfl, fun n => mem_startNotches⟩
    · rw [State.ringOf, startRings_zone]
      exact startNotches_ascending _
  · simp only [loadInput?_isSome, loadPrecinct?_isSome, loadZone?_isSome, acceptBands?_isSome, loadCue?_isSome,
      notchAcceptable_iff]
    rfl

end Sys2Proof.Machine

namespace Sys2Proof.Machine
open Sys2Proof.Safety

/-! ## What is stored comes back (O49) -/

/-- An installation with its laws passes the checks as it was stored, and loads as it was (R198). -/
theorem stored_loads {s : State} (inRange : InstallationInRange s) (homes : HomesListened s) (notches : NotchesTrue s)
    (first : s.cue? 0 ≠ none) :
    imageLoads (imageOf s.store.working) = true ∧ loadedCopy (imageOf s.store.working) = s.store.working := by
  obtain ⟨same, cues, bands, -⟩ := inRange
  have acceptable : snapshotAcceptable (snapshotOf s.store.working) = true :=
    snapshotOf_acceptable homes bands cues first fun z => by
      obtain ⟨sound, stored⟩ := (notchesTrue_iff s).mp notches z
      exact stored ▸ sound.stored
  have loads := (imageLoads_written s.store.working).trans acceptable
  exact ⟨loads, (loadedCopy_of_loads loads).1.trans ((loadSnapshot_snapshotOf acceptable).trans same)⟩

theorem startUp_working (s : State) : (startUp s).store.working = loadedCopy s.store.flash := by
  rw [startUp_eq]

theorem startUp_notices (s : State) : (startUp s).port.notices = startNotices s.store.flash := by
  rw [startUp_eq]

/-- Settles O49: RST_L leaves the flash as the write has it, which is the whole image where the write ended and has no
mark where it did not; the start-up loads the one and not the other. -/
theorem storedInstallationReturns : Obligations.StoredInstallationReturns := by
  unfold Obligations.StoredInstallationReturns
  intro s ready idle inRange homes notches first
  obtain ⟨loads, same⟩ := stored_loads inRange homes notches first
  have begun : exec .store s = _ := exec_answered ready rfl (takeStore_idle idle)
  have cut : imageLoads { s.store.flash with mark := erasedMark } = false := imageLoads_unmarked imageMark_ne.symm
  refine ⟨⟨_, _, _, _, begun, exec_event ready.1 rfl (endWrite_writing rfl imageOf _), rfl, rfl, ?_, ?_⟩,
    _, _, _, begun, rfl, rfl, ?_, ?_⟩
  · exact (startUp_working _).trans same
  · exact (startUp_notices _).trans (loadedCopy_of_loads loads).2
  · exact (startUp_working _).trans (loadedCopy_of_fails cut).1
  · exact (startUp_notices _).trans (loadedCopy_of_fails cut).2

/-! ## The laws right after reset (O60) -/

theorem reset_free (k : SlotIx) : State.reset.route? k = none :=
  Table.get_fill _ k

/-- The reset state's zones are those that a start-up sets up on its own lines (R141). -/
theorem reset_power : State.reset.power = startZones State.reset.store.working State.reset.power :=
  (startZones_factory (fun z => by simp [State.reset]) fun k => by simp [State.reset]).symm

theorem reset_ringOf (z : ZoneIx) : State.reset.ringOf z = Ring.quiet :=
  Table.get_fill _ z

/-- No notch stands in any zone right after reset, nor does the working copy hold one (R199). -/
theorem reset_notchesHeld (z : ZoneIx) : State.reset.NotchesHeld z := by
  have stored : State.reset.store.working.notches.get z = Table.fill 8 none := Table.get_fill _ z
  rw [State.NotchesHeld, reset_ringOf, stored]
  exact ⟨⟨.nil, fun n hn => nomatch hn⟩, rfl⟩

/-- Settles O60: the table is empty, and each other block's law is one that its own start-up has. -/
theorem resetHasEveryLaw : Obligations.ResetHasEveryLaw := by
  unfold Obligations.ResetHasEveryLaw
  have free {P : SlotIx → Route → Prop} : ∀ k r, State.reset.route? k = some r → P k r := fun k r h => by
    simp [reset_free] at h
  have factory : State.reset.store.working = loadedCopy erasedFlash := loadedCopy_erased.symm
  obtain ⟨ceilings, geometry⟩ := loadedCopy_inRange erasedFlash factory
  have homes : HomesListened State.reset := fun z => by
    rw [State.zoneSettings, factory]
    exact loadedCopy_home erasedFlash z
  have margins : MarginsTrue State.reset := fun z => by
    rw [reset_ringOf]
    exact ⟨Nat.zero_le _, fun runaway => nomatch runaway⟩
  exact ⟨fun j k a b ha => by simp [reset_free] at ha, free, free, free, ⟨free, ceilings⟩, ⟨free, geometry⟩,
    (openListsTrue_iff _).mpr (GateUnit.atStart_sound _ _),
    (queueOfDefinedCues_iff _).mpr (.atStart factoryDefaults_cue0),
    (zonesTrue_iff _).mpr (State.zoneSound_of_startZones reset_power rfl), homes,
    (notchesTrue_iff _).mpr reset_notchesHeld, margins,
    samplesTrue_of_silent (Table.get_fill _) (Table.get_fill _), Clock.atPowerOn_agrees, Port.atStart_framed, rfl,
    answersFew_of_idle rfl rfl, rfl,
    (installationInRange_iff _).mpr (startRings_reset ▸ factoryDefaults_installed (some 0))⟩

end Sys2Proof.Machine

namespace Sys2Proof.Machine

/-! ## Commands as such (O1) -/

/-- An idle block: DESIGN CHOICE of the model (notes/assumptions/2.md). -/
theorem step_of_pending_nil {s : State} (empty : s.pending = []) : step s = .next s := by
  rw [step, empty]

/-- The command taken no longer stands in the queue that it runs with. -/
theorem step_of_pending_cons {s : State} {c : Instr} {rest : List Instr} (queued : s.pending = c :: rest) :
    step s = exec c { s with pending := rest } := by
  rw [step, queued]

/-- Settles O1: a step by the form of the queue; taking the command that was put in front leaves the state as it was. -/
theorem stepTakesFrontCommand : Obligations.StepTakesFrontCommand := by
  unfold Obligations.StepTakesFrontCommand
  exact ⟨fun _ _ => step_of_pending_cons rfl, fun _ => step_of_pending_nil⟩

end Sys2Proof.Machine
